-- ==== Sys2Proof/Word.lean ====
section
/-! DEFINITION. The value types of K197DEC (spec/00_scope.md section 5): a bit, a byte, a character cell. -/

namespace Sys2Proof

/-- A bit, 0 or 1 (spec/00_scope.md section 5, "Values"): `true` is 1. -/
abbrev Bit := Bool

/-- "`byte` = 8 bits, unsigned, 0..255"; bit 0 is the least-significant bit (spec/00_scope.md section 5). -/
abbrev Byte := BitVec 8

/-- "`char` = one character cell, an 8-bit code" (spec/00_scope.md section 5, 92_eei_decisions.md D3). -/
abbrev Cell := BitVec 8

end Sys2Proof
end

