-- ==== Sys2Proof/Syntax.lean ====
section
/-! DEFINITION. The packet, the names of flags, formats and unit rows, and `Instr`: one constructor per row of
spec/opcode_table.json (14 operations, 24 SEGCODE rows, 9 MODESTATUS rows, 1 UNITSTATUS2 row, 9 MERGEDUNITS rows). -/

namespace Sys2Proof

/-- The packet: "a vector of exactly 18 bytes" (spec/20_memory.md R20, R26). -/
abbrev Packet := Vector Byte 18

/-- The eight flags of the mode-status byte (spec/10_state.md R13). CAL is not one of them (90_conflicts.md C4). -/
inductive Flag where
  | auto | rel | bat | ac | db | sto | rcl | neg
deriving DecidableEq, Repr

/-- ModeFlags: "set of independent booleans" (spec/10_state.md R13). -/
structure ModeFlags where
  auto : Bit
  rel : Bit
  bat : Bit
  ac : Bit
  db : Bit
  sto : Bit
  rcl : Bit
  neg : Bit
deriving DecidableEq, Repr

/-- DecodedReading: "the output triple" (spec/46_format.md R110). -/
structure DecodedReading where
  mode : List Cell
  digits : List Cell
  units : List Cell
deriving DecidableEq, Repr

/-- The nine rows of the unit decision list, in its order (spec/43_unit.md R82). -/
inductive UnitRow where
  | kiloOhm | megaOhm | ohm | microAmp | milliAmp | amp | milliVolt | volt | fallback
deriving DecidableEq, Repr

/-- What a caller can present: one of the fourteen operations (spec/30_encoding.md R40) or a byte of one of the data formats
(R35, R44). DESIGN CHOICE (log 2), safe: the spec gives an operation "no encoding of its own", so the selection is a name, not bits. -/
inductive Format where
  | fields | xmode | xcal | xdp | xseg | getmode | merge | unitdec | segdec | signch | digits | format | strip | decode
  | segcode
  | modestatus (f : Flag)
  | calflag
  | unitstatus2
  | mergedunits
deriving DecidableEq, Repr

/-- A presentation: the format and its operand bytes, in the order Decode.lean reads them (log 2). -/
structure Request where
  format : Format
  bytes : List Byte
deriving DecidableEq, Repr

/-- One constructor per row of spec/opcode_table.json, with the operands the spec's rule for it names. -/
inductive Instr where
  -- operations, spec/30_encoding.md R40
  | fields (pkt : Packet)
  | xmode (ms : Byte)
  | xcal (pkt : Packet)
  | xdp (b : Byte)
  | xseg (b : Byte)
  | getmode (auto rel db sto rcl cal : Bit)
  | merge (us1 us2 : Byte)
  | unitdec (merged : Byte) (ac rsel : Bit)
  | segdec (key : Byte)
  | signch (neg : Bit)
  | digits (pkt : Packet) (rsel : Bit)
  | format (mode digits units : List Cell)
  | strip (digits : List Cell)
  | decode (pkt : Packet) (rsel : Bit)
  -- SEGCODE rows, spec/44_segment.md R92, R93, R94: `b` is the digit byte
  | segBlank (b : Byte)
  | seg0 (b : Byte)
  | seg1 (b : Byte)
  | seg2 (b : Byte)
  | seg3 (b : Byte)
  | seg4 (b : Byte)
  | seg5 (b : Byte)
  | seg6 (b : Byte)
  | seg7 (b : Byte)
  | seg8 (b : Byte)
  | seg9 (b : Byte)
  | segCapA (b : Byte)
  | segCapC (b : Byte)
  | segCapE (b : Byte)
  | segCapH (b : Byte)
  | segCapL (b : Byte)
  | segLowC (b : Byte)
  | segLowN (b : Byte)
  | segLowO (b : Byte)
  | segLowR (b : Byte)
  | segLowT (b : Byte)
  | segLowU (b : Byte)
  | segEq (b : Byte)
  | segUnknown (b : Byte)
  -- MODESTATUS rows, spec/40_extract.md R51: `ms` is the mode-status byte
  | flagAuto (ms : Byte)
  | flagRel (ms : Byte)
  | flagBat (ms : Byte)
  | flagAc (ms : Byte)
  | flagDb (ms : Byte)
  | flagSto (ms : Byte)
  | flagRcl (ms : Byte)
  | flagNeg (ms : Byte)
  | flagCal (pkt : Packet)
  -- UNITSTATUS2 row, spec/42_merge.md R75: `us2` is the second unit-status byte
  | us2MergeField (us2 : Byte)
  -- MERGEDUNITS rows, spec/43_unit.md R82, in priority order
  | unitKiloohm (merged : Byte) (ac rsel : Bit)
  | unitMegaohm (merged : Byte) (ac rsel : Bit)
  | unitOhm (merged : Byte) (ac rsel : Bit)
  | unitMicroamp (merged : Byte) (ac rsel : Bit)
  | unitMilliamp (merged : Byte) (ac rsel : Bit)
  | unitAmp (merged : Byte) (ac rsel : Bit)
  | unitMillivolt (merged : Byte) (ac rsel : Bit)
  | unitVolt (merged : Byte) (ac rsel : Bit)
  | unitNone (merged : Byte) (ac rsel : Bit)
deriving DecidableEq, Repr

end Sys2Proof
end

