-- ==== Sys2Proof/Config.lean ====
section
/-! DEFINITION. The configuration record `CFG` (spec/00_scope.md R5). Every value the source withholds is a field, so that a
statement about every configuration is a statement about the hardware whatever its real values are. -/

namespace Sys2Proof

/-- `CFG.CAL_SEL`, "any total function from a packet to one bit" (spec/40_extract.md R53), written as a decision tree over the
packet's bits so that it is plain data: a leaf answers, a node reads bit `bit` of byte `idx`. DESIGN CHOICE (log 8), safe: every
function of an 18-byte packet is a tree of this form. -/
inductive CalSel where
  | leaf (answer : Bit)
  | node (idx : Fin 18) (bit : Fin 8) (ifClear ifSet : CalSel)
deriving DecidableEq, Repr

/-- `CFG` (spec/00_scope.md R5). `MODE_BIT[AUTO]` = 0 is fixed by the source (40_extract.md R52) and is no field. -/
structure Cfg where
  /-- `CFG.MODE_BIT[...]`, spec/30_encoding.md R36. -/
  bitRel : Fin 8
  bitBat : Fin 8
  bitAc : Fin 8
  bitDb : Fin 8
  bitSto : Fin 8
  bitRcl : Fin 8
  bitNeg : Fin 8
  /-- `CFG.CAL_SEL`, spec/40_extract.md R53. -/
  calSel : CalSel
  /-- the eight one-bit unit masks, spec/43_unit.md R81. -/
  uOhm : Byte
  uKilo : Byte
  uMega : Byte
  uAmp : Byte
  uMicro : Byte
  uMilliA : Byte
  uVolt : Byte
  uMilliV : Byte
  /-- `CFG.OMEGA[rsel]` and `CFG.MU[rsel]`, spec/43_unit.md R83. -/
  omega0 : Cell
  omega1 : Cell
  mu0 : Cell
  mu1 : Cell
  /-- `CFG.SEGTAB`, key and character, spec/44_segment.md R92, R93, R96. -/
  segtab : List (Byte × Cell)
deriving DecidableEq, Repr

end Sys2Proof
end

