-- ==== Sys2Proof/Machine/Flags.lean ====
section
/-! DEFINITION. The flag computations: the mode flags (spec/40_extract.md R51), CAL (R53) and the one-bit tests of the merged-units
byte (43_unit.md R81). -/

namespace Sys2Proof

/-- `MODE_BIT[f]` (spec/00_scope.md R5); AUTO is bit 0 (40_extract.md R52). -/
def Cfg.modeBit (c : Cfg) : Flag → Fin 8
  | .auto => 0
  | .rel => c.bitRel
  | .bat => c.bitBat
  | .ac => c.bitAc
  | .db => c.bitDb
  | .sto => c.bitSto
  | .rcl => c.bitRcl
  | .neg => c.bitNeg

/-- `flag(f)` = `ms[MODE_BIT[f]]` (spec/40_extract.md R51). -/
def flagBit (c : Cfg) (ms : Byte) (f : Flag) : Bit := ms.getLsbD (c.modeBit f)

/-- `XMODE(ms)` (spec/40_extract.md R51). -/
def xmodeOf (c : Cfg) (ms : Byte) : ModeFlags where
  auto := flagBit c ms .auto
  rel := flagBit c ms .rel
  bat := flagBit c ms .bat
  ac := flagBit c ms .ac
  db := flagBit c ms .db
  sto := flagBit c ms .sto
  rcl := flagBit c ms .rcl
  neg := flagBit c ms .neg

/-- One flag of the eight. -/
def ModeFlags.get (fl : ModeFlags) : Flag → Bit
  | .auto => fl.auto
  | .rel => fl.rel
  | .bat => fl.bat
  | .ac => fl.ac
  | .db => fl.db
  | .sto => fl.sto
  | .rcl => fl.rcl
  | .neg => fl.neg

/-- The eight flags with one of them replaced. -/
def ModeFlags.set (fl : ModeFlags) (f : Flag) (v : Bit) : ModeFlags :=
  match f with
  | .auto => { fl with auto := v }
  | .rel => { fl with rel := v }
  | .bat => { fl with bat := v }
  | .ac => { fl with ac := v }
  | .db => { fl with db := v }
  | .sto => { fl with sto := v }
  | .rcl => { fl with rcl := v }
  | .neg => { fl with neg := v }

/-- The value of a CAL selector on a packet. -/
def CalSel.eval : CalSel → Packet → Bit
  | .leaf answer, _ => answer
  | .node idx bit ifClear ifSet, pkt => if pkt[idx].getLsbD bit then ifSet.eval pkt else ifClear.eval pkt

/-- `XCAL(pkt)` = `CFG.CAL_SEL(pkt)` (spec/40_extract.md R53). -/
def calOf (c : Cfg) (pkt : Packet) : Bit := c.calSel.eval pkt

/-- `test(m, U)` = `(m & U) != 0` (spec/00_scope.md section 5, 43_unit.md R81). -/
def testMask (m u : Byte) : Bit := m &&& u != 0

end Sys2Proof
end

