-- ==== Sys2Proof/Machine/Operands.lean ====
section
/-! DEFINITION. The operands taken from packet bytes: positional fields (spec/40_extract.md R50), the decimal-point bit (R54), the
table key (R55), the merge (42_merge.md R75). -/

namespace Sys2Proof

/-- `IDX_MODE` = 8 (spec/40_extract.md R50). -/
def pktMs (pkt : Packet) : Byte := pkt[8]

/-- `d[k]` = `pkt[9 + k]`, k = 0..5, most-significant digit first (spec/40_extract.md R50, 20_memory.md R24). -/
def pktDigits (pkt : Packet) : Vector Byte 6 := #v[pkt[9], pkt[10], pkt[11], pkt[12], pkt[13], pkt[14]]

/-- `IDX_US1` = 15 (spec/40_extract.md R50). -/
def pktUs1 (pkt : Packet) : Byte := pkt[15]

/-- `IDX_US2` = 16 (spec/40_extract.md R50). -/
def pktUs2 (pkt : Packet) : Byte := pkt[16]

/-- `XDP(b)` = `b[2]` (spec/40_extract.md R54). -/
def dpBit (b : Byte) : Bit := b.getLsbD 2

/-- `XSEG(b)` = `b & 0xFB` (spec/40_extract.md R55). -/
def segKey (b : Byte) : Byte := b &&& 0xFB

/-- The field of the second unit-status byte that takes part in the merge, in its place: `(us2 & 0x06) << 5` (spec/42_merge.md
R75, R76). -/
def us2Field (us2 : Byte) : Byte := (us2 &&& 0x06) <<< 5

/-- `MERGE(us1, us2)` (spec/42_merge.md R75). -/
def mergeBytes (us1 us2 : Byte) : Byte := us1 ||| us2Field us2

/-- `dp[k]` = `XDP(d[k])`, k = 0..5 (spec/40_extract.md R54). -/
def pktPoints (pkt : Packet) : Vector Bit 6 :=
  #v[dpBit pkt[9], dpBit pkt[10], dpBit pkt[11], dpBit pkt[12], dpBit pkt[13], dpBit pkt[14]]

/-- `key[k]` = `XSEG(d[k])`, k = 0..5 (spec/40_extract.md R55). -/
def pktKeys (pkt : Packet) : Vector Byte 6 :=
  #v[segKey pkt[9], segKey pkt[10], segKey pkt[11], segKey pkt[12], segKey pkt[13], segKey pkt[14]]

/-- `dps`, the number of decimal points (spec/45_digits.md R101). -/
def dpsOf (dp : Vector Bit 6) : Nat := dp.toList.countP (fun b => b)

end Sys2Proof
end

