-- ==== Sys2Proof/Machine/Cells.lean ====
section
/-! DEFINITION. Character cells and strings of cells (spec/00_scope.md section 5, 30_encoding.md R46). -/

namespace Sys2Proof

/-- The cell of a literal character: its ASCII code (spec/30_encoding.md R46, 92_eei_decisions.md D3). PRESUMED (log 11), unsafe:
the source names characters and no codes. -/
def asc (c : Char) : Cell := BitVec.ofNat 8 c.toNat

/-- A string written as its characters, cell 0 first. -/
def str (cs : List Char) : List Cell := cs.map asc

/-- `' ' * n` (spec/00_scope.md section 5). -/
def blanks (n : Nat) : List Cell := List.replicate n (asc ' ')

/-- `SENTINEL` (spec/44_segment.md R91). -/
def sentinel : Cell := asc '_'

end Sys2Proof
end

