-- ==== Sys2Proof/Machine/Reference.lean ====
section
/-! DEFINITION. The segment rows the source fixes and the reference configuration CFG0 (spec/00_scope.md R5, 44_segment.md R92, R93). -/

namespace Sys2Proof

/-- The eight rows the source fixes (spec/44_segment.md R92). The row 0x32 is "explicitly marked as a guess in the source" (R94):
UNVERIFIED (log 17), unsafe: expected pending hardware confirmation. -/
def sourceSegRows : List (Byte × Cell) :=
  [(0x00, asc ' '), (0xEB, asc '0'), (0xC0, asc '1'), (0x7A, asc '2'), (0xF8, asc '3'), (0xD1, asc '4'), (0xB9, asc '5'), (0x32, asc 'c')]

/-- The fifteen rows whose keys the source does not give, as CFG0 fills them (spec/44_segment.md R93). DESIGN CHOICE of the spec
(92_eei_decisions.md D10, log 7), unsafe: not evidence of the real table. -/
def openSegRows0 : List (Byte × Cell) :=
  [(0xBB, asc '6'), (0xC8, asc '7'), (0xFB, asc '8'), (0xF9, asc '9'), (0xDB, asc 'A'), (0x2B, asc 'C'), (0x3B, asc 'E'), (0xD3, asc 'H'),
   (0x23, asc 'L'), (0x92, asc 'n'), (0xB2, asc 'o'), (0x12, asc 'r'), (0x33, asc 't'), (0xA2, asc 'u'), (0x30, asc '=')]

/-- CFG0, "the spec's own choice, not evidence of the real hardware" (spec/00_scope.md R5). DESIGN CHOICE (log 7), unsafe where a
statement names it; a statement about every `cfg` does not rest on it. -/
def cfg0 : Cfg where
  bitRel := 1
  bitBat := 2
  bitAc := 3
  bitDb := 4
  bitSto := 5
  bitRcl := 6
  bitNeg := 7
  calSel := .leaf false
  uOhm := 0x80
  uKilo := 0x10
  uMega := 0x20
  uAmp := 0x40
  uMicro := 0x04
  uMilliA := 0x08
  uVolt := 0x01
  uMilliV := 0x02
  omega0 := 0x4F
  omega1 := 0xF4
  mu0 := 0x75
  mu1 := 0xE4
  segtab := sourceSegRows ++ openSegRows0

end Sys2Proof
end

