-- ==== Sys2Proof/Machine/Tables.lean ====
section
/-! DEFINITION. The two tables K197DEC decodes with: the segment table (spec/44_segment.md R90, R91) and the unit decision list
(43_unit.md R82, R83, R84). -/

namespace Sys2Proof

/-- The row of `CFG.SEGTAB` with this key, if there is one: an exact match on the whole byte (spec/44_segment.md R90). -/
def segLookup (c : Cfg) (key : Byte) : Option Cell := c.segtab.lookup key

/-- `SEGDEC(key)` (spec/44_segment.md R90): the table's character, else the sentinel `'_'` (R91). -/
def segdecOf (c : Cfg) (key : Byte) : Cell := (segLookup c key).getD sentinel

/-- The first matching row of the unit decision list, top to bottom (spec/43_unit.md R82). -/
def unitRowOf (c : Cfg) (merged : Byte) : UnitRow :=
  if testMask merged c.uOhm && testMask merged c.uKilo then .kiloOhm
  else if testMask merged c.uOhm && testMask merged c.uMega then .megaOhm
  else if testMask merged c.uOhm then .ohm
  else if testMask merged c.uAmp && testMask merged c.uMicro then .microAmp
  else if testMask merged c.uAmp && testMask merged c.uMilliA then .milliAmp
  else if testMask merged c.uAmp then .amp
  else if testMask merged c.uVolt && testMask merged c.uMilliV then .milliVolt
  else if testMask merged c.uVolt then .volt
  else .fallback

/-- `CFG.OMEGA[rsel]` (spec/43_unit.md R83); `rsel` = 0 is the portable set (10_state.md R17). -/
def omegaGlyph (c : Cfg) (rsel : Bit) : Cell := if rsel then c.omega1 else c.omega0

/-- `CFG.MU[rsel]` (spec/43_unit.md R83). -/
def muGlyph (c : Cfg) (rsel : Bit) : Cell := if rsel then c.mu1 else c.mu0

/-- `ac2` = `"AC"` if AC, else two spaces (spec/43_unit.md R82). -/
def acCells (ac : Bit) : List Cell := if ac then str ['A', 'C'] else str [' ', ' ']

/-- The string of a row of the decision list (spec/43_unit.md R82, R83): the Ohm rows never show AC, the fallback is five spaces. -/
def unitRowCells (c : Cfg) (row : UnitRow) (ac rsel : Bit) : List Cell :=
  match row with
  | .kiloOhm => [asc 'k', omegaGlyph c rsel, asc ' ', asc ' ', asc ' ']
  | .megaOhm => [asc 'M', omegaGlyph c rsel, asc ' ', asc ' ', asc ' ']
  | .ohm => [asc ' ', omegaGlyph c rsel, asc ' ', asc ' ', asc ' ']
  | .microAmp => [muGlyph c rsel, asc 'A', asc ' '] ++ acCells ac
  | .milliAmp => [asc 'm', asc 'A', asc ' '] ++ acCells ac
  | .amp => [asc ' ', asc 'A', asc ' '] ++ acCells ac
  | .milliVolt => [asc 'm', asc 'V', asc ' '] ++ acCells ac
  | .volt => [asc ' ', asc 'V', asc ' '] ++ acCells ac
  | .fallback => blanks 5

/-- `UNITDEC(merged, AC, rsel)` (spec/43_unit.md R80): the string of the first matching row. -/
def unitdecOf (c : Cfg) (merged : Byte) (ac rsel : Bit) : List Cell := unitRowCells c (unitRowOf c merged) ac rsel

end Sys2Proof
end

