-- ==== Sys2Proof/Machine/Strings.lean ====
section
/-! DEFINITION. The string assembly: the mode string (spec/41_mode.md R65 to R69), the sign and the digit string (45_digits.md R100
to R104), the strip (46_format.md R112). -/

namespace Sys2Proof

/-- The AUTO field, 5 cells (spec/41_mode.md R66). -/
def autoField (auto : Bit) : List Cell := if auto then str ['A', 'U', 'T', 'O', ' '] else blanks 5

/-- The REL field, 4 cells (spec/41_mode.md R67). -/
def relField (rel : Bit) : List Cell := if rel then str ['R', 'E', 'L', ' '] else blanks 4

/-- The dB field, 3 cells, lower-case `d`, upper-case `B` (spec/41_mode.md R68). -/
def dbField (db : Bit) : List Cell := if db then str ['d', 'B', ' '] else blanks 3

/-- The priority slot, 3 cells: STO over RCL over CAL (spec/41_mode.md R69). DESIGN CHOICE of the spec for the three literals
(92_eei_decisions.md D6, log 12), unsafe. -/
def slotField (sto rcl cal : Bit) : List Cell :=
  if sto then str ['S', 'T', 'O']
  else if rcl then str ['R', 'C', 'L']
  else if cal then str ['C', 'A', 'L']
  else blanks 3

/-- `GETMODE` (spec/41_mode.md R65): the four fields in their order, 15 cells. -/
def getmodeCells (auto rel db sto rcl cal : Bit) : List Cell :=
  autoField auto ++ relField rel ++ dbField db ++ slotField sto rcl cal

/-- `SIGNCH(NEG)` (spec/45_digits.md R100). -/
def signCell (neg : Bit) : Cell := if neg then asc '-' else asc ' '

/-- What the walk carries: the string so far and `dp_found` (spec/45_digits.md R103, 10_state.md R14). -/
structure Walk where
  text : List Cell
  found : Bit
deriving DecidableEq, Repr

/-- Steps 2a and 2b for one digit byte (spec/45_digits.md R102): the point before the character of its own byte, then the
character. -/
def walkDigit (c : Cfg) (w : Walk) (b : Byte) : Walk where
  text := w.text ++ (if dpBit b then [asc '.'] else []) ++ [segdecOf c (segKey b)]
  found := w.found || dpBit b

/-- Steps 1 and 2 over the six digit bytes, left to right (spec/45_digits.md R103). -/
def digitWalk (c : Cfg) (neg : Bit) (ds : Vector Byte 6) : Walk :=
  ds.toList.foldl (walkDigit c) { text := [signCell neg], found := false }

/-- Step 3, width compensation: one space in front of the whole string when no point was found (spec/45_digits.md R104). -/
def compensate (w : Walk) : List Cell := if w.found then w.text else asc ' ' :: w.text

/-- `DIGITS(pkt, rsel)` (spec/45_digits.md R103): `rsel` is taken and ignored. -/
def digitsOf (c : Cfg) (pkt : Packet) (_rsel : Bit) : List Cell :=
  compensate (digitWalk c (flagBit c (pktMs pkt) .neg) (pktDigits pkt))

/-- A cell that STRIP removes at the front: a space or a sign (spec/46_format.md R112). -/
def isLead (x : Cell) : Bool := x == asc ' ' || x == asc '-'

/-- `STRIP(s)` (spec/46_format.md R112): the longest prefix of `' '` and `'-'` cells removed. -/
def stripCells (s : List Cell) : List Cell := s.dropWhile isLead

end Sys2Proof
end

