-- ==== Sys2Proof/WellFormed.lean ====
section
/-! DEFINITION. What a legal configuration is (spec/00_scope.md R5, 43_unit.md R81, 44_segment.md R96) and which instructions are
well-formed: the checks the types do not make. -/

namespace Sys2Proof

/-- The mode bits are "a bijection of the eight flags onto bits 0..7" (spec/00_scope.md R5): eight different positions. -/
def Cfg.modeBitsLegal (c : Cfg) : Bool :=
  decide [(0 : Fin 8), c.bitRel, c.bitBat, c.bitAc, c.bitDb, c.bitSto, c.bitRcl, c.bitNeg].Nodup

/-- A mask with exactly one bit set (spec/00_scope.md R5). -/
def isOneBit (m : Byte) : Bool := (List.range 8).any fun k => m == 1#8 <<< k

/-- The legal unit masks (spec/00_scope.md R5, 92_eei_decisions.md D21): one bit each, the base flags pairwise different, the two
scale bits of one unit different, a scale bit different from its base flag. -/
def Cfg.unitMasksLegal (c : Cfg) : Bool :=
  [c.uOhm, c.uKilo, c.uMega, c.uAmp, c.uMicro, c.uMilliA, c.uVolt, c.uMilliV].all isOneBit
    && c.uOhm != c.uAmp && c.uOhm != c.uVolt && c.uAmp != c.uVolt
    && c.uKilo != c.uMega && c.uMicro != c.uMilliA
    && c.uKilo != c.uOhm && c.uMega != c.uOhm && c.uMicro != c.uAmp && c.uMilliA != c.uAmp && c.uMilliV != c.uVolt

/-- A legal segment table (spec/44_segment.md R96): bit 2 of every key clear, keys pairwise different, the eight source rows
present, no row whose character is the sentinel. -/
def Cfg.segtabLegal (c : Cfg) : Bool :=
  c.segtab.all (fun row => !dpBit row.1)
    && decide (c.segtab.map Prod.fst).Nodup
    && sourceSegRows.all (fun row => c.segtab.contains row)
    && c.segtab.all (fun row => row.2 != sentinel)

/-- A legal configuration (spec/00_scope.md R5). Any CAL selector and any glyph code is legal. -/
def Cfg.legal (c : Cfg) : Bool := c.modeBitsLegal && c.unitMasksLegal && c.segtabLegal

/-- A digit byte selects the SEGCODE row of a character when the table gives its key that character (spec/30_encoding.md R44 (b)). -/
def selectsSegRow (c : Cfg) (b : Byte) (ch : Char) : Bool := segLookup c (segKey b) == some (asc ch)

/-- Well-formed instructions of an instance with configuration `c`. FORMAT takes strings of the widths of spec/30_encoding.md R42.
A SEGCODE row takes a digit byte that selects it; a MERGEDUNITS row takes a merged byte for which it is the first match (R44 (b),
(e)). Every operand of the other rows is legal (R43). -/
def Instr.wf (c : Cfg) : Instr → Bool
  | .fields _ => true
  | .xmode _ => true
  | .xcal _ => true
  | .xdp _ => true
  | .xseg _ => true
  | .getmode _ _ _ _ _ _ => true
  | .merge _ _ => true
  | .unitdec _ _ _ => true
  | .segdec _ => true
  | .signch _ => true
  | .digits _ _ => true
  | .format m g u => m.length == 15 && decide (8 ≤ g.length) && decide (g.length ≤ 13) && u.length == 5
  | .strip _ => true
  | .decode _ _ => true
  | .segBlank b => selectsSegRow c b ' '
  | .seg0 b => selectsSegRow c b '0'
  | .seg1 b => selectsSegRow c b '1'
  | .seg2 b => selectsSegRow c b '2'
  | .seg3 b => selectsSegRow c b '3'
  | .seg4 b => selectsSegRow c b '4'
  | .seg5 b => selectsSegRow c b '5'
  | .seg6 b => selectsSegRow c b '6'
  | .seg7 b => selectsSegRow c b '7'
  | .seg8 b => selectsSegRow c b '8'
  | .seg9 b => selectsSegRow c b '9'
  | .segCapA b => selectsSegRow c b 'A'
  | .segCapC b => selectsSegRow c b 'C'
  | .segCapE b => selectsSegRow c b 'E'
  | .segCapH b => selectsSegRow c b 'H'
  | .segCapL b => selectsSegRow c b 'L'
  | .segLowC b => selectsSegRow c b 'c'
  | .segLowN b => selectsSegRow c b 'n'
  | .segLowO b => selectsSegRow c b 'o'
  | .segLowR b => selectsSegRow c b 'r'
  | .segLowT b => selectsSegRow c b 't'
  | .segLowU b => selectsSegRow c b 'u'
  | .segEq b => selectsSegRow c b '='
  | .segUnknown b => (segLookup c (segKey b)).isNone
  | .flagAuto _ => true
  | .flagRel _ => true
  | .flagBat _ => true
  | .flagAc _ => true
  | .flagDb _ => true
  | .flagSto _ => true
  | .flagRcl _ => true
  | .flagNeg _ => true
  | .flagCal _ => true
  | .us2MergeField _ => true
  | .unitKiloohm merged _ _ => unitRowOf c merged == .kiloOhm
  | .unitMegaohm merged _ _ => unitRowOf c merged == .megaOhm
  | .unitOhm merged _ _ => unitRowOf c merged == .ohm
  | .unitMicroamp merged _ _ => unitRowOf c merged == .microAmp
  | .unitMilliamp merged _ _ => unitRowOf c merged == .milliAmp
  | .unitAmp merged _ _ => unitRowOf c merged == .amp
  | .unitMillivolt merged _ _ => unitRowOf c merged == .milliVolt
  | .unitVolt merged _ _ => unitRowOf c merged == .volt
  | .unitNone merged _ _ => unitRowOf c merged == .fallback

end Sys2Proof
end

