-- ==== Sys2Proof/Decode.lean ====
section
/-! DEFINITION. Decoding a presentation (a format and its operand bytes) to an instruction, total, with a named rejection, and the
encoder. The byte formats and their fields are those of spec/30_encoding.md R35 to R39 and R44; the order of an operation's operand
bytes is the model's (log 2). -/

namespace Sys2Proof

/-- Why a presentation is no instruction. All are safe: the boundary answers nothing where the spec has no input of that shape. -/
inductive DecodeError where
  /-- a packet operand of `length` bytes, not 18: "a shorter or longer buffer is not a value of that type" (spec/20_memory.md R26) -/
  | notAPacket (length : Nat)
  /-- another number of operand bytes than the format takes -/
  | operandCount (expected got : Nat)
  /-- a byte other than 0 and 1 where a one-bit operand stands (log 2) -/
  | notABit (b : Byte)
  /-- FORMAT's three strings together have another width than 28 to 33 cells (spec/30_encoding.md R42) -/
  | stringWidth (got : Nat)
deriving DecidableEq, Repr

/-- The byte that carries a one-bit operand. -/
def bitByte (v : Bit) : Byte := if v then 1 else 0

/-- A one-bit operand read from its byte. -/
def takeBit (b : Byte) : Except DecodeError Bit :=
  if b = 0 then .ok false else if b = 1 then .ok true else .error (.notABit b)

/-- A packet operand: exactly 18 bytes (spec/20_memory.md R26). -/
def takePacket (bytes : List Byte) : Except DecodeError Packet :=
  if h : bytes.length = 18 then .ok ⟨bytes.toArray, by simpa using h⟩ else .error (.notAPacket bytes.length)

/-- A packet operand followed by a one-bit operand. -/
def takePacketBit (bytes : List Byte) (f : Packet → Bit → Instr) : Except DecodeError Instr :=
  match takePacket bytes.dropLast with
  | .error e => .error e
  | .ok pkt =>
    match takeBit (bytes.getLastD 0) with
    | .error e => .error e
    | .ok v => .ok (f pkt v)

/-- One operand byte. -/
def takeByte (bytes : List Byte) (f : Byte → Instr) : Except DecodeError Instr :=
  match bytes with
  | [b] => .ok (f b)
  | _ => .error (.operandCount 1 bytes.length)

/-- A byte and two one-bit operands. -/
def takeByteBits (bytes : List Byte) (f : Byte → Bit → Bit → Instr) : Except DecodeError Instr :=
  match bytes with
  | [b, x, y] =>
    match takeBit x, takeBit y with
    | .ok vx, .ok vy => .ok (f b vx vy)
    | .error e, _ => .error e
    | .ok _, .error e => .error e
  | _ => .error (.operandCount 3 bytes.length)

/-- The row of spec/opcode_table.json for the character a digit byte shows. A character with no row of its own (a glyph that a
configuration other than CFG0 adds, spec/44_segment.md R96) is presented as the lookup itself, SEGDEC on the key (log 9). -/
def segRowOf (ch : Cell) (b : Byte) : Instr :=
  if ch = asc ' ' then .segBlank b
  else if ch = asc '0' then .seg0 b
  else if ch = asc '1' then .seg1 b
  else if ch = asc '2' then .seg2 b
  else if ch = asc '3' then .seg3 b
  else if ch = asc '4' then .seg4 b
  else if ch = asc '5' then .seg5 b
  else if ch = asc '6' then .seg6 b
  else if ch = asc '7' then .seg7 b
  else if ch = asc '8' then .seg8 b
  else if ch = asc '9' then .seg9 b
  else if ch = asc 'A' then .segCapA b
  else if ch = asc 'C' then .segCapC b
  else if ch = asc 'E' then .segCapE b
  else if ch = asc 'H' then .segCapH b
  else if ch = asc 'L' then .segCapL b
  else if ch = asc 'c' then .segLowC b
  else if ch = asc 'n' then .segLowN b
  else if ch = asc 'o' then .segLowO b
  else if ch = asc 'r' then .segLowR b
  else if ch = asc 't' then .segLowT b
  else if ch = asc 'u' then .segLowU b
  else if ch = asc '=' then .segEq b
  else .segdec (segKey b)

/-- A digit byte read by the segment table, the sentinel row last (spec/30_encoding.md R44 (b)). -/
def decodeSegcode (c : Cfg) (b : Byte) : Instr :=
  match segLookup c (segKey b) with
  | some ch => segRowOf ch b
  | none => .segUnknown b

/-- A mode-status byte read for one flag (spec/30_encoding.md R44 (c)). -/
def decodeModestatus (f : Flag) (ms : Byte) : Instr :=
  match f with
  | .auto => .flagAuto ms
  | .rel => .flagRel ms
  | .bat => .flagBat ms
  | .ac => .flagAc ms
  | .db => .flagDb ms
  | .sto => .flagSto ms
  | .rcl => .flagRcl ms
  | .neg => .flagNeg ms

/-- A merged-units byte read by the decision list: the first row that matches wins (spec/30_encoding.md R44 (e)). -/
def decodeMergedunits (c : Cfg) (merged : Byte) (ac rsel : Bit) : Instr :=
  match unitRowOf c merged with
  | .kiloOhm => .unitKiloohm merged ac rsel
  | .megaOhm => .unitMegaohm merged ac rsel
  | .ohm => .unitOhm merged ac rsel
  | .microAmp => .unitMicroamp merged ac rsel
  | .milliAmp => .unitMilliamp merged ac rsel
  | .amp => .unitAmp merged ac rsel
  | .milliVolt => .unitMillivolt merged ac rsel
  | .volt => .unitVolt merged ac rsel
  | .fallback => .unitNone merged ac rsel

/-- GETMODE's operands: the mode-status byte, from which the five flags are read at their positions, and CAL
(spec/opcode_table.json row GETMODE). -/
def decodeGetmode (c : Cfg) (bytes : List Byte) : Except DecodeError Instr :=
  match bytes with
  | [ms, cal] =>
    match takeBit cal with
    | .error e => .error e
    | .ok v =>
      let fl := xmodeOf c ms
      .ok (.getmode fl.auto fl.rel fl.db fl.sto fl.rcl v)
  | _ => .error (.operandCount 2 bytes.length)

/-- FORMAT's operands: mode string (15 cells), digit string (8 to 13), unit string (5), one after the other (spec/30_encoding.md
R42, opcode_table.json row FORMAT). -/
def decodeFormat (cells : List Cell) : Except DecodeError Instr :=
  if 28 ≤ cells.length ∧ cells.length ≤ 33 then
    .ok (.format (cells.take 15) ((cells.drop 15).take (cells.length - 20)) (cells.drop (cells.length - 5)))
  else .error (.stringWidth cells.length)

/-- The decoder: total on every format and every list of bytes. -/
def decode (c : Cfg) (r : Request) : Except DecodeError Instr :=
  match r.format with
  | .fields => (takePacket r.bytes).map .fields
  | .xmode => takeByte r.bytes .xmode
  | .xcal => (takePacket r.bytes).map .xcal
  | .xdp => takeByte r.bytes .xdp
  | .xseg => takeByte r.bytes .xseg
  | .getmode => decodeGetmode c r.bytes
  | .merge =>
    match r.bytes with
    | [us1, us2] => .ok (.merge us1 us2)
    | _ => .error (.operandCount 2 r.bytes.length)
  | .unitdec => takeByteBits r.bytes .unitdec
  | .segdec => takeByte r.bytes .segdec
  | .signch => takeByte r.bytes fun ms => .signch (flagBit c ms .neg)
  | .digits => takePacketBit r.bytes .digits
  | .format => decodeFormat r.bytes
  | .strip => .ok (.strip r.bytes)
  | .decode => takePacketBit r.bytes .decode
  | .segcode => takeByte r.bytes (decodeSegcode c)
  | .modestatus f => takeByte r.bytes (decodeModestatus f)
  | .calflag => (takePacket r.bytes).map .flagCal
  | .unitstatus2 => takeByte r.bytes .us2MergeField
  | .mergedunits => takeByteBits r.bytes (decodeMergedunits c)

/-- One bit in its place in a byte. -/
def bitAt (v : Bit) (k : Fin 8) : Byte := if v then 1#8 <<< k.val else 0

/-- The mode-status byte that carries these flags (spec/30_encoding.md R36). -/
def packFlags (c : Cfg) (fl : ModeFlags) : Byte :=
  bitAt fl.auto (c.modeBit .auto) ||| bitAt fl.rel (c.modeBit .rel) ||| bitAt fl.bat (c.modeBit .bat) ||| bitAt fl.ac (c.modeBit .ac)
    ||| bitAt fl.db (c.modeBit .db) ||| bitAt fl.sto (c.modeBit .sto) ||| bitAt fl.rcl (c.modeBit .rcl) ||| bitAt fl.neg (c.modeBit .neg)

/-- The encoder: the presentation of an instruction. -/
def encode (c : Cfg) : Instr → Request
  | .fields pkt => ⟨.fields, pkt.toList⟩
  | .xmode ms => ⟨.xmode, [ms]⟩
  | .xcal pkt => ⟨.xcal, pkt.toList⟩
  | .xdp b => ⟨.xdp, [b]⟩
  | .xseg b => ⟨.xseg, [b]⟩
  | .getmode auto rel db sto rcl cal => ⟨.getmode, [packFlags c ⟨auto, rel, false, false, db, sto, rcl, false⟩, bitByte cal]⟩
  | .merge us1 us2 => ⟨.merge, [us1, us2]⟩
  | .unitdec merged ac rsel => ⟨.unitdec, [merged, bitByte ac, bitByte rsel]⟩
  | .segdec key => ⟨.segdec, [key]⟩
  | .signch neg => ⟨.signch, [bitAt neg (c.modeBit .neg)]⟩
  | .digits pkt rsel => ⟨.digits, pkt.toList ++ [bitByte rsel]⟩
  | .format mode digits units => ⟨.format, mode ++ digits ++ units⟩
  | .strip digits => ⟨.strip, digits⟩
  | .decode pkt rsel => ⟨.decode, pkt.toList ++ [bitByte rsel]⟩
  | .segBlank b => ⟨.segcode, [b]⟩
  | .seg0 b => ⟨.segcode, [b]⟩
  | .seg1 b => ⟨.segcode, [b]⟩
  | .seg2 b => ⟨.segcode, [b]⟩
  | .seg3 b => ⟨.segcode, [b]⟩
  | .seg4 b => ⟨.segcode, [b]⟩
  | .seg5 b => ⟨.segcode, [b]⟩
  | .seg6 b => ⟨.segcode, [b]⟩
  | .seg7 b => ⟨.segcode, [b]⟩
  | .seg8 b => ⟨.segcode, [b]⟩
  | .seg9 b => ⟨.segcode, [b]⟩
  | .segCapA b => ⟨.segcode, [b]⟩
  | .segCapC b => ⟨.segcode, [b]⟩
  | .segCapE b => ⟨.segcode, [b]⟩
  | .segCapH b => ⟨.segcode, [b]⟩
  | .segCapL b => ⟨.segcode, [b]⟩
  | .segLowC b => ⟨.segcode, [b]⟩
  | .segLowN b => ⟨.segcode, [b]⟩
  | .segLowO b => ⟨.segcode, [b]⟩
  | .segLowR b => ⟨.segcode, [b]⟩
  | .segLowT b => ⟨.segcode, [b]⟩
  | .segLowU b => ⟨.segcode, [b]⟩
  | .segEq b => ⟨.segcode, [b]⟩
  | .segUnknown b => ⟨.segcode, [b]⟩
  | .flagAuto ms => ⟨.modestatus .auto, [ms]⟩
  | .flagRel ms => ⟨.modestatus .rel, [ms]⟩
  | .flagBat ms => ⟨.modestatus .bat, [ms]⟩
  | .flagAc ms => ⟨.modestatus .ac, [ms]⟩
  | .flagDb ms => ⟨.modestatus .db, [ms]⟩
  | .flagSto ms => ⟨.modestatus .sto, [ms]⟩
  | .flagRcl ms => ⟨.modestatus .rcl, [ms]⟩
  | .flagNeg ms => ⟨.modestatus .neg, [ms]⟩
  | .flagCal pkt => ⟨.calflag, pkt.toList⟩
  | .us2MergeField us2 => ⟨.unitstatus2, [us2]⟩
  | .unitKiloohm merged ac rsel => ⟨.mergedunits, [merged, bitByte ac, bitByte rsel]⟩
  | .unitMegaohm merged ac rsel => ⟨.mergedunits, [merged, bitByte ac, bitByte rsel]⟩
  | .unitOhm merged ac rsel => ⟨.mergedunits, [merged, bitByte ac, bitByte rsel]⟩
  | .unitMicroamp merged ac rsel => ⟨.mergedunits, [merged, bitByte ac, bitByte rsel]⟩
  | .unitMilliamp merged ac rsel => ⟨.mergedunits, [merged, bitByte ac, bitByte rsel]⟩
  | .unitAmp merged ac rsel => ⟨.mergedunits, [merged, bitByte ac, bitByte rsel]⟩
  | .unitMillivolt merged ac rsel => ⟨.mergedunits, [merged, bitByte ac, bitByte rsel]⟩
  | .unitVolt merged ac rsel => ⟨.mergedunits, [merged, bitByte ac, bitByte rsel]⟩
  | .unitNone merged ac rsel => ⟨.mergedunits, [merged, bitByte ac, bitByte rsel]⟩

/-- The bytes of a number, least-significant byte first: how spec/opcode_table.json's bit numbers lie in the packet. -/
def bytesOfNat : Nat → Nat → List Byte
  | 0, _ => []
  | n + 1, w => BitVec.ofNat 8 w :: bytesOfNat n (w / 256)

/-- The flag whose mask under CFG0 is this byte, if there is one (spec/opcode_table.json, MODESTATUS rows). -/
def flagOfMask (b : Byte) : Option Flag :=
  if b = 0x01 then some .auto
  else if b = 0x02 then some .rel
  else if b = 0x04 then some .bat
  else if b = 0x08 then some .ac
  else if b = 0x10 then some .db
  else if b = 0x20 then some .sto
  else if b = 0x40 then some .rcl
  else if b = 0x80 then some .neg
  else none

/-- The `match` values of the MERGEDUNITS rows of spec/opcode_table.json that are no flag's mask, under CFG0. -/
def unitMatches : List Byte := [0x90, 0xA0, 0x44, 0x48, 0x03]

/-- The presentation of a bare byte of the table. A byte names no format, and one byte is a row in several of them, so the formats are
tried in the table's order: a key of CFG0's segment table, then a flag's mask, then a unit row's match, else a digit byte. DESIGN CHOICE
(log 10), safe: it concerns only bytes that are presented without their format. -/
def byteRequest (b : Byte) : Request :=
  match segLookup cfg0 b, flagOfMask b with
  | some _, _ => ⟨.segcode, [b]⟩
  | none, some f => ⟨.modestatus f, [b]⟩
  | none, none => if unitMatches.contains b then ⟨.mergedunits, [b, 0, 0]⟩ else ⟨.segcode, [b]⟩

/-- The presentation of a bare word of the table, by its width: a byte; 28 cells (a pattern of 28 characters, 32 bits in whole bytes)
are FORMAT's strings; any other word is an 18-byte packet (a pattern of 18 characters, 24 bits), byte 0 lowest, with `rsel` = 0, for the
whole block (log 10). -/
def tableRequest (nbits w : Nat) : Request :=
  if w >>> nbits ≠ 0 then ⟨.segcode, []⟩
  else if nbits ≤ 8 then byteRequest (BitVec.ofNat 8 w)
  else if nbits = 28 ∨ nbits = 32 ∨ nbits = 224 then ⟨.format, bytesOfNat 28 w⟩
  else if w < 2 ^ 144 then ⟨.decode, bytesOfNat 18 w ++ [0]⟩
  else ⟨.segcode, []⟩

/-- The instruction the decoder reads from a word of spec/opcode_table.json, whose bits are given under CFG0 (spec/30_encoding.md R44). -/
def decodeTableWord (nbits w : Nat) : Option Instr :=
  match decode cfg0 (tableRequest nbits w) with
  | .ok i => some i
  | .error _ => none

end Sys2Proof
end

