-- ==== Sys2Proof/Machine/State.lean ====
section
/-! DEFINITION. The state of the machine as plain data: the inputs of an evaluation (spec/10_state.md R17), the configuration (R5,
R15), the values derived inside an evaluation and the operations' results (R18, R40). K197DEC retains nothing (R10): no operation
reads a derived value back. -/

namespace Sys2Proof.Machine

/-- Why a step can fault. No constructor: "its fault set and its refusal set are empty for inputs of the right type"
(spec/60_exceptions.md R120); nothing raises a fault (log 19). Safe. -/
inductive Fault
deriving DecidableEq, Repr

/-- Why a step gives no result. -/
inductive Refusal where
  /-- exec's arm of an instruction that has no meaning yet; no arm raises it. Safe: nothing is claimed of the instruction. -/
  | notModelled (mnemonic : String)
  /-- `step` raises it when the presentation decodes to no instruction, with the decoder's reason. Safe: the spec has no such input
  (spec/20_memory.md R26, 93_implementation_defined.md U6). -/
  | notAnInput (reason : DecodeError)
  /-- `State.present` raises it for a buffer of `length` bytes, not 18. Safe: "the model refuses it at the boundary; it gives it no
  output" (spec/20_memory.md R26, 60_exceptions.md R126). -/
  | notAPacket (length : Nat)
deriving DecidableEq, Repr

/-- The machine's state. INVENTORY.md lists every field with its rule and its value at reset. -/
structure State where
  /-- the constant configuration, spec/10_state.md R15 (log 1) -/
  cfg : Cfg
  /-- the packet presented, addresses 0..17, spec/20_memory.md R20: strictly rising, no entry equal to 0x00 -/
  mem : List Host.Cell
  /-- the rendering-mode selector, spec/10_state.md R17: 1 is the extended glyph set -/
  rsel : Bit
  /-- MODEL's own field (log 2): the operation presented alone; none when the whole block is evaluated -/
  request : Option Request
  /-- the mode-status byte, spec/40_extract.md R50 -/
  ms : Byte
  /-- the digit bytes `d[0..5]`, spec/40_extract.md R50 -/
  d : Vector Byte 6
  /-- the first unit-status byte, spec/40_extract.md R50 -/
  us1 : Byte
  /-- the second unit-status byte, spec/40_extract.md R50 -/
  us2 : Byte
  /-- the mode flags, spec/40_extract.md R51 -/
  flags : ModeFlags
  /-- CAL, spec/40_extract.md R53 -/
  cal : Bit
  /-- the result of XDP on one digit byte, spec/40_extract.md R54 -/
  xdp : Bit
  /-- the result of XSEG on one digit byte, spec/40_extract.md R55 -/
  xseg : Byte
  /-- the mode string, spec/41_mode.md R65 -/
  modeStr : List Cell
  /-- the result of US2_MERGE_FIELD: the merge field of a second unit-status byte, in its place, spec/30_encoding.md R37 (log 27) -/
  mergeField : Byte
  /-- the merged-units byte, spec/42_merge.md R75 -/
  merged : Byte
  /-- the unit string, spec/43_unit.md R80 -/
  unitStr : List Cell
  /-- the result of SEGDEC and of the SEGCODE rows, spec/44_segment.md R90 -/
  segChar : Cell
  /-- the result of SIGNCH, spec/45_digits.md R100 -/
  signChar : Cell
  /-- the decimal-point bits `dp[0..5]`, spec/10_state.md R18 -/
  dp : Vector Bit 6
  /-- the table keys `key[0..5]`, spec/10_state.md R18 -/
  key : Vector Byte 6
  /-- `dp_found`, spec/10_state.md R14 -/
  dpFound : Bit
  /-- the digit string, spec/45_digits.md R103 -/
  digitStr : List Cell
  /-- the DecodedReading, spec/46_format.md R110 -/
  reading : DecodedReading
  /-- the result of STRIP, spec/46_format.md R112 -/
  stripped : List Cell
deriving DecidableEq, Repr

/-- "K197DEC has no reset" (spec/10_state.md R19, 70_reset_and_hazards.md R135): the machine as it is instantiated with CFG0, the
all-zero packet and `rsel` = 0 presented, each derived value what DECODE gives for them (95_test_vectors.md TV18). DESIGN CHOICE
(logs 5, 6, 7), unsafe where a statement rests on one of these values. -/
def State.reset : State where
  cfg := cfg0
  mem := []
  rsel := false
  request := none
  ms := 0
  d := #v[0, 0, 0, 0, 0, 0]
  us1 := 0
  us2 := 0
  flags := ⟨false, false, false, false, false, false, false, false⟩
  cal := false
  xdp := false
  xseg := 0
  modeStr := List.replicate 15 0x20
  mergeField := 0
  merged := 0
  unitStr := List.replicate 5 0x20
  segChar := 0x20
  signChar := 0x20
  dp := #v[false, false, false, false, false, false]
  key := #v[0, 0, 0, 0, 0, 0]
  dpFound := false
  digitStr := List.replicate 8 0x20
  reading := ⟨List.replicate 15 0x20, List.replicate 8 0x20, List.replicate 5 0x20⟩
  stripped := []

end Sys2Proof.Machine
end

