-- ==== Sys2Proof/Machine/Ops.lean ====
section
/-! DEFINITION. The named operations over the packet memory (spec/20_memory.md R20 to R27), over the result lines, and the
boundary operations: presenting a packet and fetching what is presented. K197DEC takes no exception (60_exceptions.md R120,
R125), so there is no exception entry and no return here. -/

namespace Sys2Proof.Machine

/-- The three outcomes of an instruction of this machine. -/
abbrev Result := Host.Outcome State Fault Refusal

/-- What a packet byte that nothing lists reads as. DESIGN CHOICE (log 6), unsafe: the spec gives the buffer no content before a
packet is presented. -/
def Memory.unlisted : Byte := 0

/-- The canonical form: addresses strictly rising, all below `PKT_LEN` = 18, no entry equal to what an unlisted address reads as. -/
def Memory.wf (m : List Host.Cell) : Bool :=
  decide (m.Pairwise fun x y => x.1 < y.1) && m.all fun x => decide (x.1 < 18) && x.2 != Memory.unlisted

/-- The byte at an address, listed or not. -/
def Memory.get (m : List Host.Cell) (a : Nat) : Byte := (m.lookup a).getD Memory.unlisted

/-- `MemRead(i, 1)` = `pkt[i]` for 0 <= i <= 17 (spec/20_memory.md R22); there is no address outside the space (R20). -/
def Memory.readByte (m : List Host.Cell) (i : Fin 18) : Byte := Memory.get m i.val

/-- The list with address `a` holding `v`, in canonical form. -/
def Memory.insert (a : Nat) (v : Byte) : List Host.Cell → List Host.Cell
  | [] => if v = Memory.unlisted then [] else [(a, v)]
  | x :: rest =>
    if x.1 < a then x :: Memory.insert a v rest
    else if x.1 = a then (if v = Memory.unlisted then rest else (a, v) :: rest)
    else (if v = Memory.unlisted then x :: rest else (a, v) :: x :: rest)

/-- The bus sampler's write of one packet byte. No operation of K197DEC writes the packet (spec/20_memory.md R25). -/
def Memory.writeByte (m : List Host.Cell) (i : Fin 18) (v : Byte) : List Host.Cell := Memory.insert i.val v m

/-- The memory that holds a packet. -/
def Memory.ofPacket (pkt : Packet) : List Host.Cell :=
  (List.finRange 18).foldl (fun m i => Memory.writeByte m i pkt[i]) []

/-- The packet a memory holds: "all reads of one evaluation see one and the same packet value" (spec/20_memory.md R29). -/
def Memory.packet (m : List Host.Cell) : Packet := Vector.ofFn (Memory.readByte m)

/-- The bus sampler presents a complete buffer and the instantiator a selector; the whole block is then evaluated
(spec/70_reset_and_hazards.md R137, R145). A buffer of another length is refused (20_memory.md R26, 60_exceptions.md R126). -/
def State.present (s : State) (buffer : List Byte) (rsel : Bit) : Result :=
  match takePacket buffer with
  | .ok pkt => .next { s with mem := Memory.ofPacket pkt, rsel := rsel, request := none }
  | .error _ => .refused (.notAPacket buffer.length)

/-- What the machine evaluates next: the operation presented alone, else the whole block, DECODE, on the packet and the selector that
stand at its inputs (spec/46_format.md R113, 70_reset_and_hazards.md R135). -/
def fetch (s : State) : Request :=
  match s.request with
  | some r => r
  | none => ⟨.decode, (Memory.packet s.mem).toList ++ [bitByte s.rsel]⟩

/-- FIELDS's results (spec/40_extract.md R50). -/
def State.setFields (s : State) (ms : Byte) (d : Vector Byte 6) (us1 us2 : Byte) : State :=
  { s with ms := ms, d := d, us1 := us1, us2 := us2 }

/-- The mode flags (spec/40_extract.md R51). -/
def State.setFlags (s : State) (flags : ModeFlags) : State := { s with flags := flags }

/-- CAL (spec/40_extract.md R53). -/
def State.setCal (s : State) (cal : Bit) : State := { s with cal := cal }

/-- XDP's result (spec/40_extract.md R54). -/
def State.setXdp (s : State) (xdp : Bit) : State := { s with xdp := xdp }

/-- XSEG's result (spec/40_extract.md R55). -/
def State.setXseg (s : State) (xseg : Byte) : State := { s with xseg := xseg }

/-- The mode string (spec/41_mode.md R65). -/
def State.setModeStr (s : State) (modeStr : List Cell) : State := { s with modeStr := modeStr }

/-- US2_MERGE_FIELD's result (spec/30_encoding.md R37, log 27). -/
def State.setMergeField (s : State) (mergeField : Byte) : State := { s with mergeField := mergeField }

/-- The merged-units byte (spec/42_merge.md R75). -/
def State.setMerged (s : State) (merged : Byte) : State := { s with merged := merged }

/-- The unit string (spec/43_unit.md R80). -/
def State.setUnitStr (s : State) (unitStr : List Cell) : State := { s with unitStr := unitStr }

/-- One decoded character (spec/44_segment.md R90). -/
def State.setSegChar (s : State) (segChar : Cell) : State := { s with segChar := segChar }

/-- The sign character (spec/45_digits.md R100). -/
def State.setSignChar (s : State) (signChar : Cell) : State := { s with signChar := signChar }

/-- The values of one evaluation of DIGITS (spec/45_digits.md R103, 10_state.md R18). -/
def State.setDigits (s : State) (dp : Vector Bit 6) (key : Vector Byte 6) (dpFound : Bit) (digitStr : List Cell) : State :=
  { s with dp := dp, key := key, dpFound := dpFound, digitStr := digitStr }

/-- The DecodedReading (spec/46_format.md R110). -/
def State.setReading (s : State) (reading : DecodedReading) : State := { s with reading := reading }

/-- STRIP's result (spec/46_format.md R112). -/
def State.setStripped (s : State) (stripped : List Cell) : State := { s with stripped := stripped }

/-- FIELDS on the state: the positional split of a packet (spec/40_extract.md R50). -/
def State.evalFields (s : State) (pkt : Packet) : State := s.setFields (pktMs pkt) (pktDigits pkt) (pktUs1 pkt) (pktUs2 pkt)

/-- DIGITS on the state (spec/45_digits.md R103). -/
def State.evalDigits (s : State) (pkt : Packet) (rsel : Bit) : State :=
  s.setDigits (pktPoints pkt) (pktKeys pkt)
    (digitWalk s.cfg (flagBit s.cfg (pktMs pkt) .neg) (pktDigits pkt)).found (digitsOf s.cfg pkt rsel)

/-- One flag replaced (spec/30_encoding.md R44 (c)), the other seven kept: DESIGN CHOICE (log 4). -/
def State.evalFlag (s : State) (f : Flag) (ms : Byte) : State := s.setFlags (s.flags.set f (flagBit s.cfg ms f))

/-- The string of a unit row (spec/43_unit.md R82). -/
def State.evalUnitRow (s : State) (row : UnitRow) (ac rsel : Bit) : State := s.setUnitStr (unitRowCells s.cfg row ac rsel)

end Sys2Proof.Machine
end

