-- ==== Sys2Proof/Machine/Decoders.lean ====
section
/-! DEFINITION. The unit decoder UNITDEC, the segment lookup SEGDEC, the sign SIGNCH and the digit string DIGITS (spec/43_unit.md, 44_segment.md, 45_digits.md). -/

namespace Sys2Proof.Machine

/-- UNITDEC: it takes the merged byte and has no access to us1 or us2 (spec/43_unit.md R80, 42_merge.md R77). -/
def execUnitdec (merged : Byte) (ac rsel : Bit) (s : State) : Result := .next (s.setUnitStr (unitdecOf s.cfg merged ac rsel))

/-- SEGDEC: total on every byte, the sentinel off the table (spec/44_segment.md R90, R91). -/
def execSegdec (key : Byte) (s : State) : Result := .next (s.setSegChar (segdecOf s.cfg key))

/-- SIGNCH: the sign character (spec/45_digits.md R100). -/
def execSignch (neg : Bit) (s : State) : Result := .next (s.setSignChar (signCell neg))

/-- DIGITS: the digit string, `rsel` ignored (spec/45_digits.md R103). -/
def execDigits (pkt : Packet) (rsel : Bit) (s : State) : Result := .next (s.evalDigits pkt rsel)

end Sys2Proof.Machine
end

