-- ==== Sys2Proof/Machine/Extract.lean ====
section
/-! DEFINITION. The bit-field extractor: FIELDS, XMODE, XCAL, XDP, XSEG (spec/40_extract.md). -/

namespace Sys2Proof.Machine

/-- FIELDS: the positional split; bytes 0..7 and 17 are not read (spec/40_extract.md R50). -/
def execFields (pkt : Packet) (s : State) : Result := .next (s.evalFields pkt)

/-- XMODE: the eight mode flags of a mode-status byte, every byte legal (spec/40_extract.md R51). -/
def execXmode (ms : Byte) (s : State) : Result := .next (s.setFlags (xmodeOf s.cfg ms))

/-- XCAL: `CFG.CAL_SEL` on the packet (spec/40_extract.md R53). -/
def execXcal (pkt : Packet) (s : State) : Result := .next (s.setCal (calOf s.cfg pkt))

/-- XDP: bit 2 of a digit byte (spec/40_extract.md R54). -/
def execXdp (b : Byte) (s : State) : Result := .next (s.setXdp (dpBit b))

/-- XSEG: the digit byte with bit 2 cleared (spec/40_extract.md R55). -/
def execXseg (b : Byte) (s : State) : Result := .next (s.setXseg (segKey b))

end Sys2Proof.Machine
end

