-- ==== Sys2Proof/Machine/FlagRows.lean ====
section
/-! DEFINITION. The MODESTATUS rows, one flag each, and the UNITSTATUS2 row (spec/40_extract.md R51, R53; 30_encoding.md R37, R44 (c), (d)).
The spec says of a MODESTATUS row what its own flag is. DESIGN CHOICE (log 4): it leaves the other seven flag lines as they are. -/

namespace Sys2Proof.Machine

/-- FLAG_AUTO: the flag is its bit of the mode-status byte (spec/40_extract.md R51); the others stay (log 4). -/
def execFlagAuto (ms : Byte) (s : State) : Result := .next (s.evalFlag .auto ms)

/-- FLAG_REL: the flag is its bit of the mode-status byte (spec/40_extract.md R51); the others stay (log 4). -/
def execFlagRel (ms : Byte) (s : State) : Result := .next (s.evalFlag .rel ms)

/-- FLAG_BAT: the flag is its bit of the mode-status byte (spec/40_extract.md R51); the others stay (log 4). -/
def execFlagBat (ms : Byte) (s : State) : Result := .next (s.evalFlag .bat ms)

/-- FLAG_AC: the flag is its bit of the mode-status byte (spec/40_extract.md R51); the others stay (log 4). -/
def execFlagAc (ms : Byte) (s : State) : Result := .next (s.evalFlag .ac ms)

/-- FLAG_DB: the flag is its bit of the mode-status byte (spec/40_extract.md R51); the others stay (log 4). -/
def execFlagDb (ms : Byte) (s : State) : Result := .next (s.evalFlag .db ms)

/-- FLAG_STO: the flag is its bit of the mode-status byte (spec/40_extract.md R51); the others stay (log 4). -/
def execFlagSto (ms : Byte) (s : State) : Result := .next (s.evalFlag .sto ms)

/-- FLAG_RCL: the flag is its bit of the mode-status byte (spec/40_extract.md R51); the others stay (log 4). -/
def execFlagRcl (ms : Byte) (s : State) : Result := .next (s.evalFlag .rcl ms)

/-- FLAG_NEG: the flag is its bit of the mode-status byte (spec/40_extract.md R51); the others stay (log 4). -/
def execFlagNeg (ms : Byte) (s : State) : Result := .next (s.evalFlag .neg ms)

/-- FLAG_CAL: no bit of the mode-status byte but `CFG.CAL_SEL` on the packet (spec/40_extract.md R53). DEDUCED
(log 16), safe: that the row's operand is the packet. -/
def execFlagCal (pkt : Packet) (s : State) : Result := .next (s.setCal (calOf s.cfg pkt))

/-- US2_MERGE_FIELD: bits 1 and 2 of the second unit-status byte in their places 6 and 7 of the merged byte (spec/30_encoding.md R37).
DESIGN CHOICE (log 27), unsafe: the spec gives the row a pattern and the field mask 0x06 (R44 (d)) and no result of its own. -/
def execUs2MergeField (us2 : Byte) (s : State) : Result := .next (s.setMergeField (us2Field us2))

end Sys2Proof.Machine
end

