-- ==== Sys2Proof/Machine/Formatter.lean ====
section
/-! DEFINITION. The reading formatter and the top level: FORMAT, STRIP, DECODE (spec/46_format.md). -/

namespace Sys2Proof.Machine

/-- FORMAT: pure composition, no cell changed (spec/46_format.md R110). -/
def execFormat (mode digits units : List Cell) (s : State) : Result := .next (s.setReading ⟨mode, digits, units⟩)

/-- STRIP: the longest prefix of spaces and signs removed (spec/46_format.md R112). -/
def execStrip (digits : List Cell) (s : State) : Result := .next (s.setStripped (stripCells digits))

/-- DECODE: the whole block, one evaluation, in the order of its rule; the merge stands before the unit decoder (spec/46_format.md
R113, 42_merge.md R77). -/
def execDecode (pkt : Packet) (rsel : Bit) (s : State) : Result :=
  let flags := xmodeOf s.cfg (pktMs pkt)
  let cal := calOf s.cfg pkt
  let merged := mergeBytes (pktUs1 pkt) (pktUs2 pkt)
  let mode := getmodeCells flags.auto flags.rel flags.db flags.sto flags.rcl cal
  let units := unitdecOf s.cfg merged flags.ac rsel
  let digits := digitsOf s.cfg pkt rsel
  .next (((((((s.evalFields pkt).setFlags flags).setCal cal).setMerged merged).setModeStr mode).setUnitStr units).evalDigits pkt rsel
    |>.setReading ⟨mode, digits, units⟩)

end Sys2Proof.Machine
end

