-- ==== Sys2Proof/Machine/Mode.lean ====
section
/-! DEFINITION. The status-mode decoder GETMODE and the unit-merger MERGE (spec/41_mode.md, 42_merge.md). -/

namespace Sys2Proof.Machine

/-- GETMODE: the mode string (spec/41_mode.md R65). -/
def execGetmode (auto rel db sto rcl cal : Bit) (s : State) : Result := .next (s.setModeStr (getmodeCells auto rel db sto rcl cal))

/-- MERGE: the merged-units byte (spec/42_merge.md R75). -/
def execMerge (us1 us2 : Byte) (s : State) : Result := .next (s.setMerged (mergeBytes us1 us2))

end Sys2Proof.Machine
end

