-- ==== Sys2Proof/Machine/SegRows.lean ====
section
/-! DEFINITION. The SEGCODE rows: a digit byte that selects the row shows the row's character; bit 2 is no part of the key and changes nothing (spec/44_segment.md R92, R93, R94, R91; 30_encoding.md R44 (b)). -/

namespace Sys2Proof.Machine

/-- SEG_BLANK (spec/44_segment.md R92). -/
def execSegBlank (_b : Byte) (s : State) : Result := .next (s.setSegChar (asc ' '))

/-- SEG_0 (spec/44_segment.md R92). -/
def execSeg0 (_b : Byte) (s : State) : Result := .next (s.setSegChar (asc '0'))

/-- SEG_1 (spec/44_segment.md R92). -/
def execSeg1 (_b : Byte) (s : State) : Result := .next (s.setSegChar (asc '1'))

/-- SEG_2 (spec/44_segment.md R92). -/
def execSeg2 (_b : Byte) (s : State) : Result := .next (s.setSegChar (asc '2'))

/-- SEG_3 (spec/44_segment.md R92). -/
def execSeg3 (_b : Byte) (s : State) : Result := .next (s.setSegChar (asc '3'))

/-- SEG_4 (spec/44_segment.md R92). -/
def execSeg4 (_b : Byte) (s : State) : Result := .next (s.setSegChar (asc '4'))

/-- SEG_5 (spec/44_segment.md R92). -/
def execSeg5 (_b : Byte) (s : State) : Result := .next (s.setSegChar (asc '5'))

/-- SEG_6 (spec/44_segment.md R93). -/
def execSeg6 (_b : Byte) (s : State) : Result := .next (s.setSegChar (asc '6'))

/-- SEG_7 (spec/44_segment.md R93). -/
def execSeg7 (_b : Byte) (s : State) : Result := .next (s.setSegChar (asc '7'))

/-- SEG_8 (spec/44_segment.md R93). -/
def execSeg8 (_b : Byte) (s : State) : Result := .next (s.setSegChar (asc '8'))

/-- SEG_9 (spec/44_segment.md R93). -/
def execSeg9 (_b : Byte) (s : State) : Result := .next (s.setSegChar (asc '9'))

/-- SEG_A (spec/44_segment.md R93). -/
def execSegCapA (_b : Byte) (s : State) : Result := .next (s.setSegChar (asc 'A'))

/-- SEG_C (spec/44_segment.md R93). -/
def execSegCapC (_b : Byte) (s : State) : Result := .next (s.setSegChar (asc 'C'))

/-- SEG_E (spec/44_segment.md R93). -/
def execSegCapE (_b : Byte) (s : State) : Result := .next (s.setSegChar (asc 'E'))

/-- SEG_H (spec/44_segment.md R93). -/
def execSegCapH (_b : Byte) (s : State) : Result := .next (s.setSegChar (asc 'H'))

/-- SEG_L (spec/44_segment.md R93). -/
def execSegCapL (_b : Byte) (s : State) : Result := .next (s.setSegChar (asc 'L'))

/-- SEG_c (spec/44_segment.md R94). UNVERIFIED (log 17), unsafe: the source calls this row a guess. -/
def execSegLowC (_b : Byte) (s : State) : Result := .next (s.setSegChar (asc 'c'))

/-- SEG_n (spec/44_segment.md R93). -/
def execSegLowN (_b : Byte) (s : State) : Result := .next (s.setSegChar (asc 'n'))

/-- SEG_o (spec/44_segment.md R93). -/
def execSegLowO (_b : Byte) (s : State) : Result := .next (s.setSegChar (asc 'o'))

/-- SEG_r (spec/44_segment.md R93). -/
def execSegLowR (_b : Byte) (s : State) : Result := .next (s.setSegChar (asc 'r'))

/-- SEG_t (spec/44_segment.md R93). -/
def execSegLowT (_b : Byte) (s : State) : Result := .next (s.setSegChar (asc 't'))

/-- SEG_u (spec/44_segment.md R93). -/
def execSegLowU (_b : Byte) (s : State) : Result := .next (s.setSegChar (asc 'u'))

/-- SEG_EQ (spec/44_segment.md R93). -/
def execSegEq (_b : Byte) (s : State) : Result := .next (s.setSegChar (asc '='))

/-- SEG_UNKNOWN: the sentinel, "not a failure" (spec/44_segment.md R91). -/
def execSegUnknown (_b : Byte) (s : State) : Result := .next (s.setSegChar sentinel)

end Sys2Proof.Machine
end

