-- ==== Sys2Proof/Machine/UnitRows.lean ====
section
/-! DEFINITION. The MERGEDUNITS rows: the unit string of the row (spec/43_unit.md R82, R83, R84; 30_encoding.md R44 (e)). -/

namespace Sys2Proof.Machine

/-- UNIT_KILOOHM (spec/43_unit.md R82). -/
def execUnitKiloohm (_merged : Byte) (ac rsel : Bit) (s : State) : Result := .next (s.evalUnitRow .kiloOhm ac rsel)

/-- UNIT_MEGAOHM (spec/43_unit.md R82). -/
def execUnitMegaohm (_merged : Byte) (ac rsel : Bit) (s : State) : Result := .next (s.evalUnitRow .megaOhm ac rsel)

/-- UNIT_OHM (spec/43_unit.md R82). -/
def execUnitOhm (_merged : Byte) (ac rsel : Bit) (s : State) : Result := .next (s.evalUnitRow .ohm ac rsel)

/-- UNIT_MICROAMP (spec/43_unit.md R82). -/
def execUnitMicroamp (_merged : Byte) (ac rsel : Bit) (s : State) : Result := .next (s.evalUnitRow .microAmp ac rsel)

/-- UNIT_MILLIAMP (spec/43_unit.md R82). -/
def execUnitMilliamp (_merged : Byte) (ac rsel : Bit) (s : State) : Result := .next (s.evalUnitRow .milliAmp ac rsel)

/-- UNIT_AMP (spec/43_unit.md R82). -/
def execUnitAmp (_merged : Byte) (ac rsel : Bit) (s : State) : Result := .next (s.evalUnitRow .amp ac rsel)

/-- UNIT_MILLIVOLT (spec/43_unit.md R82). -/
def execUnitMillivolt (_merged : Byte) (ac rsel : Bit) (s : State) : Result := .next (s.evalUnitRow .milliVolt ac rsel)

/-- UNIT_VOLT (spec/43_unit.md R82). -/
def execUnitVolt (_merged : Byte) (ac rsel : Bit) (s : State) : Result := .next (s.evalUnitRow .volt ac rsel)

/-- UNIT_NONE (spec/43_unit.md R84). -/
def execUnitNone (_merged : Byte) (ac rsel : Bit) (s : State) : Result := .next (s.evalUnitRow .fallback ac rsel)

end Sys2Proof.Machine
end

