-- ==== Sys2Proof/Machine/Dispatch.lean ====
section
/-! DEFINITION. One arm per row of spec/opcode_table.json. -/

namespace Sys2Proof.Machine

def exec (i : Instr) (s : State) : Host.Outcome State Fault Refusal :=
  match i with
  | .fields pkt => Sys2Proof.Machine.execFields pkt s
  | .xmode ms => Sys2Proof.Machine.execXmode ms s
  | .xcal pkt => Sys2Proof.Machine.execXcal pkt s
  | .xdp b => Sys2Proof.Machine.execXdp b s
  | .xseg b => Sys2Proof.Machine.execXseg b s
  | .getmode auto rel db sto rcl cal => Sys2Proof.Machine.execGetmode auto rel db sto rcl cal s
  | .merge us1 us2 => Sys2Proof.Machine.execMerge us1 us2 s
  | .unitdec merged ac rsel => Sys2Proof.Machine.execUnitdec merged ac rsel s
  | .segdec key => Sys2Proof.Machine.execSegdec key s
  | .signch neg => Sys2Proof.Machine.execSignch neg s
  | .digits pkt rsel => Sys2Proof.Machine.execDigits pkt rsel s
  | .format mode digits units => Sys2Proof.Machine.execFormat mode digits units s
  | .strip digits => Sys2Proof.Machine.execStrip digits s
  | .decode pkt rsel => Sys2Proof.Machine.execDecode pkt rsel s
  | .segBlank b => Sys2Proof.Machine.execSegBlank b s
  | .seg0 b => Sys2Proof.Machine.execSeg0 b s
  | .seg1 b => Sys2Proof.Machine.execSeg1 b s
  | .seg2 b => Sys2Proof.Machine.execSeg2 b s
  | .seg3 b => Sys2Proof.Machine.execSeg3 b s
  | .seg4 b => Sys2Proof.Machine.execSeg4 b s
  | .seg5 b => Sys2Proof.Machine.execSeg5 b s
  | .seg6 b => Sys2Proof.Machine.execSeg6 b s
  | .seg7 b => Sys2Proof.Machine.execSeg7 b s
  | .seg8 b => Sys2Proof.Machine.execSeg8 b s
  | .seg9 b => Sys2Proof.Machine.execSeg9 b s
  | .segCapA b => Sys2Proof.Machine.execSegCapA b s
  | .segCapC b => Sys2Proof.Machine.execSegCapC b s
  | .segCapE b => Sys2Proof.Machine.execSegCapE b s
  | .segCapH b => Sys2Proof.Machine.execSegCapH b s
  | .segCapL b => Sys2Proof.Machine.execSegCapL b s
  | .segLowC b => Sys2Proof.Machine.execSegLowC b s
  | .segLowN b => Sys2Proof.Machine.execSegLowN b s
  | .segLowO b => Sys2Proof.Machine.execSegLowO b s
  | .segLowR b => Sys2Proof.Machine.execSegLowR b s
  | .segLowT b => Sys2Proof.Machine.execSegLowT b s
  | .segLowU b => Sys2Proof.Machine.execSegLowU b s
  | .segEq b => Sys2Proof.Machine.execSegEq b s
  | .segUnknown b => Sys2Proof.Machine.execSegUnknown b s
  | .flagAuto ms => Sys2Proof.Machine.execFlagAuto ms s
  | .flagRel ms => Sys2Proof.Machine.execFlagRel ms s
  | .flagBat ms => Sys2Proof.Machine.execFlagBat ms s
  | .flagAc ms => Sys2Proof.Machine.execFlagAc ms s
  | .flagDb ms => Sys2Proof.Machine.execFlagDb ms s
  | .flagSto ms => Sys2Proof.Machine.execFlagSto ms s
  | .flagRcl ms => Sys2Proof.Machine.execFlagRcl ms s
  | .flagNeg ms => Sys2Proof.Machine.execFlagNeg ms s
  | .flagCal pkt => Sys2Proof.Machine.execFlagCal pkt s
  | .us2MergeField us2 => Sys2Proof.Machine.execUs2MergeField us2 s
  | .unitKiloohm merged ac rsel => Sys2Proof.Machine.execUnitKiloohm merged ac rsel s
  | .unitMegaohm merged ac rsel => Sys2Proof.Machine.execUnitMegaohm merged ac rsel s
  | .unitOhm merged ac rsel => Sys2Proof.Machine.execUnitOhm merged ac rsel s
  | .unitMicroamp merged ac rsel => Sys2Proof.Machine.execUnitMicroamp merged ac rsel s
  | .unitMilliamp merged ac rsel => Sys2Proof.Machine.execUnitMilliamp merged ac rsel s
  | .unitAmp merged ac rsel => Sys2Proof.Machine.execUnitAmp merged ac rsel s
  | .unitMillivolt merged ac rsel => Sys2Proof.Machine.execUnitMillivolt merged ac rsel s
  | .unitVolt merged ac rsel => Sys2Proof.Machine.execUnitVolt merged ac rsel s
  | .unitNone merged ac rsel => Sys2Proof.Machine.execUnitNone merged ac rsel s

end Sys2Proof.Machine
end

