-- ==== Sys2Proof/Machine/Step.lean ====
section
/-! DEFINITION. One step: one evaluation (spec/10_state.md R10). What is presented is decoded and evaluated; with no operation presented
alone that is the whole block, DECODE, on the packet and the selector at the inputs (70_reset_and_hazards.md R135). -/

namespace Sys2Proof.Machine

/-- One evaluation. The inputs stay as they are, so a second step gives the same outputs again (spec/20_memory.md R27). -/
def step (s : State) : Host.Outcome State Fault Refusal :=
  match decode s.cfg (fetch s) with
  | .ok i => exec i s
  | .error e => .refused (.notAnInput e)

/-- `s` with the instruction of a table word presented, so that the next step evaluates exactly it (log 3). The words of
spec/opcode_table.json are given under CFG0 (30_encoding.md R44), so the instance is CFG0's. -/
def State.withFetchWord (s : State) (nbits w : Nat) : State :=
  { s with cfg := cfg0, request := some (tableRequest nbits w) }

end Sys2Proof.Machine
end

