-- ==== Sys2Proof/Safety.lean ====
section
/-! DEFINITION. What holds of every state the machine reaches from a legal instance: the terms the invariants are stated in. -/

namespace Sys2Proof.Machine

/-- The characters a digit string can hold: the space, the sign, the point, the sentinel, the table's (spec/45_digits.md R108). -/
def digitAlphabet (c : Cfg) : List Cell := [asc ' ', asc '-', asc '.', sentinel] ++ c.segtab.map Prod.snd

/-- The widths of the output strings (spec/30_encoding.md R42, 46_format.md R115): 15, 5, and 8 cells with at most one point,
7 + `dps` with more. -/
def State.WidthsHold (s : State) : Prop :=
  s.modeStr.length = 15 ∧ s.unitStr.length = 5 ∧ s.digitStr.length = 8 + (dpsOf s.dp - 1)

/-- The widths of the DecodedReading's strings (spec/46_format.md R111, 30_encoding.md R42). -/
def State.ReadingFits (s : State) : Prop :=
  s.reading.mode.length = 15 ∧ s.reading.units.length = 5 ∧ 8 ≤ s.reading.digits.length ∧ s.reading.digits.length ≤ 13

/-- The result lines keep what their rules say of them: `dp_found` is `dps >= 1` (spec/10_state.md R14), bit 2 of a key is clear
(40_extract.md R55), the merge field has only bits 6 and 7 (42_merge.md R76), the sign is `'-'` or a space (45_digits.md R100), a
stripped string starts with neither (46_format.md R112), a digit string holds only its alphabet (45_digits.md R108). -/
def State.LinesHold (s : State) : Prop :=
  s.dpFound = decide (1 ≤ dpsOf s.dp) ∧ (∀ k ∈ s.key.toList, k.getLsbD 2 = false) ∧ s.xseg.getLsbD 2 = false
    ∧ s.mergeField &&& 0x3F = 0 ∧ (s.signChar = asc '-' ∨ s.signChar = asc ' ')
    ∧ (∀ x, s.stripped.head? = some x → x ≠ asc '-' ∧ x ≠ asc ' ') ∧ (∀ x ∈ s.digitStr, x ∈ digitAlphabet s.cfg)

/-- A legal instance with a canonical packet memory and result lines that keep their rules. -/
def State.Inv (s : State) : Prop :=
  s.cfg.legal = true ∧ Memory.wf s.mem = true ∧ s.WidthsHold ∧ s.ReadingFits ∧ s.LinesHold

end Sys2Proof.Machine
end

