-- ==== Sys2Proof/Certificates/Slice0/Obligations.lean ====
section
/-! DEFINITION. The statements for the provers, from the numbered rules of spec/. A statement over every `s` is a statement over every
configuration: `s.cfg` is arbitrary, or legal where a premise says so (log 1). -/

open Sys2Proof Sys2Proof.Machine

/-! ## The bit-field extractor (spec/40_extract.md) -/

/-- R50: the positional split, and that bytes 0..7 and 17 are not read. -/
def Obligations.FieldsSplitsThePacket : Prop :=
  ∀ (s : State) (p : Packet), ∃ t, exec (.fields p) s = .next t
    ∧ t.ms = p[8] ∧ (∀ k : Fin 6, t.d[k] = p[9 + k.val]'(by omega)) ∧ t.us1 = p[15] ∧ t.us2 = p[16]
    ∧ t = { s with ms := t.ms, d := t.d, us1 := t.us1, us2 := t.us2 }
    ∧ ∀ q : Packet, (∀ i : Fin 18, 8 ≤ i.val → i.val ≤ 16 → q[i] = p[i]) → exec (.fields q) s = .next t

/-- R51: each flag is its own bit of the mode-status byte, no byte is rejected, 0x00 clears and 0xFF sets all eight, and under a legal
configuration every combination of the eight flags occurs. -/
def Obligations.XmodeReadsEveryFlag : Prop :=
  ∀ s : State,
    (∀ ms : Byte, ∃ t, exec (.xmode ms) s = .next t ∧ t = { s with flags := t.flags }
      ∧ (∀ f : Flag, t.flags.get f = ms.getLsbD (s.cfg.modeBit f))
      ∧ (ms = 0x00 → ∀ f : Flag, t.flags.get f = false) ∧ (ms = 0xFF → ∀ f : Flag, t.flags.get f = true))
    ∧ (s.cfg.legal = true → ∀ fl : ModeFlags, ∃ ms : Byte, exec (.xmode ms) s = .next { s with flags := fl })

/-- R52: AUTO is bit 0; under a legal configuration 0x01 is "AUTO set, nothing else"; exactly 128 mode-status bytes set NEG, whatever
bit it is. -/
def Obligations.AutoIsBitZeroAndNegSplitsTheBytes : Prop :=
  ∀ c : Cfg, (∀ ms : Byte, (xmodeOf c ms).auto = ms.getLsbD 0)
    ∧ (c.legal = true → ∀ f : Flag, flagBit c 0x01 f = decide (f = .auto))
    ∧ (List.range 256).countP (fun n => (xmodeOf c (BitVec.ofNat 8 n)).neg) = 128

/-- R53: CAL is the configured selector's answer for XCAL; under CFG0 it is 0. That the row FLAG_CAL takes the packet, as XCAL does, is
the model's deduction (DEDUCED, log 16), no rule of the spec. -/
def Obligations.XcalAsksTheSelector : Prop :=
  ∀ (s : State) (p : Packet), exec (.xcal p) s = .next { s with cal := s.cfg.calSel.eval p }
    ∧ exec (.flagCal p) s = .next { s with cal := s.cfg.calSel.eval p }
    ∧ (s.cfg = cfg0 → s.cfg.calSel.eval p = false)

/-- R53, log 8: the decision trees are all of "any total function from a packet to one bit". -/
def Obligations.EveryCalSelectorIsATree : Prop :=
  ∀ f : Packet → Bit, ∃ e : CalSel, ∀ p : Packet, e.eval p = f p

/-- R54: the decimal-point indicator is bit 2, equivalently `(b & 0x04) != 0`; `dp[k]` is that of digit byte k. -/
def Obligations.XdpReadsBitTwo : Prop :=
  ∀ s : State,
    (∀ b : Byte, exec (.xdp b) s = .next { s with xdp := b.getLsbD 2 }
      ∧ exec (.xdp b) s = .next { s with xdp := decide (b &&& 0x04 ≠ 0) })
    ∧ ∀ (p : Packet) (r : Bit), ∃ t, exec (.digits p r) s = .next t
      ∧ ∀ k : Fin 6, exec (.xdp (p[9 + k.val]'(by omega))) s = .next { s with xdp := t.dp[k] }

/-- R55: the key is the byte with bit 2 cleared and every other bit in its place; bytes that differ only in bit 2 have one key and one
character; the keys are all the 128 bytes with bit 2 clear; `key[k]` is that of digit byte k. -/
def Obligations.XsegClearsBitTwoOnly : Prop :=
  (∀ (s : State) (b : Byte),
    (∃ t, exec (.xseg b) s = .next t ∧ t = { s with xseg := t.xseg } ∧ t.xseg = b &&& 0xFB
      ∧ (∀ i : Fin 8, t.xseg.getLsbD i = (b.getLsbD i && decide (i.val ≠ 2)))
      ∧ exec (.xseg (b ^^^ 0x04)) s = .next t
      ∧ exec (.segdec t.xseg) s = exec (.segdec ((b ^^^ 0x04) &&& 0xFB)) s)
    ∧ (b.getLsbD 2 = false → exec (.xseg b) s = .next { s with xseg := b }))
  ∧ (List.range 256).countP (fun n => decide (segKey (BitVec.ofNat 8 n) = BitVec.ofNat 8 n)) = 128
  ∧ ∀ (s : State) (p : Packet) (r : Bit), ∃ t, exec (.digits p r) s = .next t
      ∧ ∀ k : Fin 6, exec (.xseg (p[9 + k.val]'(by omega))) s = .next { s with xseg := t.key[k] }

/-- R56: changing byte 8 changes no merged byte, point or key; changing digit bytes changes no flag and no merged byte; changing bytes 15
and 16 changes no flag, point or key. -/
def Obligations.ExtractionsAreIndependent : Prop :=
  ∀ (s t u : State) (p q : Packet) (r : Bit), exec (.decode p r) s = .next t → exec (.decode q r) s = .next u →
    ((∀ i : Fin 18, i.val ≠ 8 → p[i] = q[i]) → t.merged = u.merged ∧ t.dp = u.dp ∧ t.key = u.key)
    ∧ ((∀ i : Fin 18, i.val < 9 ∨ 14 < i.val → p[i] = q[i]) → t.flags = u.flags ∧ t.merged = u.merged)
    ∧ ((∀ i : Fin 18, i.val ≠ 15 ∧ i.val ≠ 16 → p[i] = q[i]) → t.flags = u.flags ∧ t.dp = u.dp ∧ t.key = u.key)

/-! ## The status-mode decoder (spec/41_mode.md) -/

/-- R65 to R69: the four fields in their order, each its text or as many spaces. The three literals of the slot are the spec's own
decision D6 (log 12), the codes its decision D3 (log 11). -/
def Obligations.GetmodeRendersItsFields : Prop :=
  ∀ (s : State) (auto rel db sto rcl cal : Bit),
    exec (.getmode auto rel db sto rcl cal) s = .next { s with modeStr :=
      (if auto then [0x41, 0x55, 0x54, 0x4F, 0x20] else List.replicate 5 0x20)
      ++ (if rel then [0x52, 0x45, 0x4C, 0x20] else List.replicate 4 0x20)
      ++ (if db then [0x64, 0x42, 0x20] else List.replicate 3 0x20)
      ++ (if sto then [0x53, 0x54, 0x4F] else if rcl then [0x52, 0x43, 0x4C] else if cal then [0x43, 0x41, 0x4C]
          else List.replicate 3 0x20) }

/-- R70: for every mode-status byte and both values of CAL the string has 15 cells, and at most 32 strings occur. -/
def Obligations.ModeStringIsFifteenCells : Prop :=
  ∃ l : List (List Cell), l.length = 32 ∧ ∀ (s : State) (ms : Byte) (cal : Bit), s.request = some ⟨.getmode, [ms, bitByte cal]⟩ →
    ∃ t, step s = .next t ∧ t.modeStr.length = 15 ∧ t.modeStr ∈ l

/-- R71: mode-status bytes that differ only in the bits of BAT, AC and NEG have one mode string. -/
def Obligations.ModeStringHidesBatAcNeg : Prop :=
  ∀ (s u t v : State) (ms ms' : Byte) (cal : Bit), s.cfg = u.cfg →
    s.request = some ⟨.getmode, [ms, bitByte cal]⟩ → u.request = some ⟨.getmode, [ms', bitByte cal]⟩ →
    (∀ f : Flag, f ≠ .bat → f ≠ .ac → f ≠ .neg → ms.getLsbD (s.cfg.modeBit f) = ms'.getLsbD (s.cfg.modeBit f)) →
    step s = .next t → step u = .next v → t.modeStr = v.modeStr

/-- R72: a packet whose mode-status byte is 0x01 shows `"AUTO "` and ten spaces, under every legal configuration whose selector
answers 0 for it. -/
def Obligations.AutoAloneScenario : Prop :=
  ∀ (s : State) (p : Packet) (r : Bit), s.cfg.legal = true → p[8] = 0x01 → s.cfg.calSel.eval p = false →
    ∃ t, exec (.decode p r) s = .next t ∧ t.modeStr = str ['A', 'U', 'T', 'O'] ++ blanks 11

/-! ## The unit-merger (spec/42_merge.md) -/

/-- R75: the formula, and bit by bit. -/
def Obligations.MergeIsTheOr : Prop :=
  ∀ (s : State) (us1 us2 : Byte), ∃ t, exec (.merge us1 us2) s = .next t ∧ t = { s with merged := t.merged }
    ∧ t.merged = us1 ||| ((us2 &&& 0x06) <<< 5)
    ∧ t.merged.getLsbD 7 = (us1.getLsbD 7 || us2.getLsbD 2) ∧ t.merged.getLsbD 6 = (us1.getLsbD 6 || us2.getLsbD 1)
    ∧ ∀ k < 6, t.merged.getLsbD k = us1.getLsbD k

/-- R76: the masked field is one of four values, its shift one of four, no bit is lost, and a wider integer truncated gives the same
byte. That the row US2_MERGE_FIELD presented alone yields the shifted field is the model's choice (log 27). -/
def Obligations.MergeNeverOverflows : Prop :=
  ∀ (s : State) (us1 us2 : Byte), ∃ t u,
    exec (.us2MergeField us2) s = .next t ∧ t = { s with mergeField := t.mergeField } ∧ exec (.merge us1 us2) s = .next u
    ∧ (us2 &&& 0x06) ∈ [0x00#8, 0x02#8, 0x04#8, 0x06#8] ∧ t.mergeField ∈ [0x00#8, 0x40#8, 0x80#8, 0xC0#8]
    ∧ t.mergeField.toNat = (us2 &&& 0x06).toNat * 32 ∧ u.merged = us1 ||| t.mergeField
    ∧ u.merged = BitVec.ofNat 8 (us1.toNat ||| ((us2 &&& 0x06).toNat <<< 5))

/-- R78: the merge ignores the six other bits of the second byte, and every packet byte but 15 and 16. -/
def Obligations.MergeIgnoresUnrelatedBits : Prop :=
  (∀ (s : State) (us1 us2 x : Byte), exec (.merge us1 us2) s = exec (.merge us1 ((us2 &&& 0x06) ||| (x &&& 0xF9))) s)
  ∧ ∀ (s t u : State) (p q : Packet) (r r' : Bit), p[15] = q[15] → p[16] = q[16] →
      exec (.decode p r) s = .next t → exec (.decode q r') s = .next u → t.merged = u.merged

/-- R79: the low six bits pass, bits are only added, monotone in both operands, onto, not one-to-one. -/
def Obligations.MergeLawsHold : Prop :=
  ∀ s : State,
    (∀ a b : Byte, ∃ t, exec (.merge a b) s = .next t ∧ t.merged &&& 0x3F = a &&& 0x3F ∧ t.merged ||| a = t.merged)
    ∧ (∀ (a a' b b' : Byte) (t u : State), a &&& a' = a → b &&& b' = b →
        exec (.merge a b) s = .next t → exec (.merge a' b') s = .next u → t.merged &&& u.merged = t.merged)
    ∧ (∀ m : Byte, exec (.merge m 0) s = .next { s with merged := m })
    ∧ exec (.merge 0x40 0x00) s = exec (.merge 0x00 0x02) s

/-! ## The unit decoder (spec/43_unit.md) -/

/-- R82: the string of the first matching row, with the AC cells on rows 4 to 8 and the glyphs of the selector. -/
def Obligations.UnitdecTakesTheFirstMatch : Prop :=
  ∀ (s : State) (m : Byte) (ac r : Bit),
    let omega := if r then s.cfg.omega1 else s.cfg.omega0
    let mu := if r then s.cfg.mu1 else s.cfg.mu0
    let ac2 := if ac then [asc 'A', asc 'C'] else [asc ' ', asc ' ']
    exec (.unitdec m ac r) s = .next { s with unitStr := (
      if m &&& s.cfg.uOhm ≠ 0 ∧ m &&& s.cfg.uKilo ≠ 0 then [asc 'k', omega, asc ' ', asc ' ', asc ' ']
      else if m &&& s.cfg.uOhm ≠ 0 ∧ m &&& s.cfg.uMega ≠ 0 then [asc 'M', omega, asc ' ', asc ' ', asc ' ']
      else if m &&& s.cfg.uOhm ≠ 0 then [asc ' ', omega, asc ' ', asc ' ', asc ' ']
      else if m &&& s.cfg.uAmp ≠ 0 ∧ m &&& s.cfg.uMicro ≠ 0 then [mu, asc 'A', asc ' '] ++ ac2
      else if m &&& s.cfg.uAmp ≠ 0 ∧ m &&& s.cfg.uMilliA ≠ 0 then [asc 'm', asc 'A', asc ' '] ++ ac2
      else if m &&& s.cfg.uAmp ≠ 0 then [asc ' ', asc 'A', asc ' '] ++ ac2
      else if m &&& s.cfg.uVolt ≠ 0 ∧ m &&& s.cfg.uMilliV ≠ 0 then [asc 'm', asc 'V', asc ' '] ++ ac2
      else if m &&& s.cfg.uVolt ≠ 0 then [asc ' ', asc 'V', asc ' '] ++ ac2
      else List.replicate 5 (asc ' ')) }

/-- The nine MERGEDUNITS rows: each row's string (R82, results column), AC on rows 4 to 8 only. -/
def Obligations.UnitRowsShowTheirStrings : Prop :=
  ∀ (s : State) (m : Byte) (ac r : Bit),
    let omega := if r then s.cfg.omega1 else s.cfg.omega0
    let mu := if r then s.cfg.mu1 else s.cfg.mu0
    let ac2 := if ac then [asc 'A', asc 'C'] else [asc ' ', asc ' ']
    exec (.unitKiloohm m ac r) s = .next { s with unitStr := [asc 'k', omega, asc ' ', asc ' ', asc ' '] }
    ∧ exec (.unitMegaohm m ac r) s = .next { s with unitStr := [asc 'M', omega, asc ' ', asc ' ', asc ' '] }
    ∧ exec (.unitOhm m ac r) s = .next { s with unitStr := [asc ' ', omega, asc ' ', asc ' ', asc ' '] }
    ∧ exec (.unitMicroamp m ac r) s = .next { s with unitStr := mu :: asc 'A' :: asc ' ' :: ac2 }
    ∧ exec (.unitMilliamp m ac r) s = .next { s with unitStr := asc 'm' :: asc 'A' :: asc ' ' :: ac2 }
    ∧ exec (.unitAmp m ac r) s = .next { s with unitStr := asc ' ' :: asc 'A' :: asc ' ' :: ac2 }
    ∧ exec (.unitMillivolt m ac r) s = .next { s with unitStr := asc 'm' :: asc 'V' :: asc ' ' :: ac2 }
    ∧ exec (.unitVolt m ac r) s = .next { s with unitStr := asc ' ' :: asc 'V' :: asc ' ' :: ac2 }
    ∧ exec (.unitNone m ac r) s = .next { s with unitStr := List.replicate 5 (asc ' ') }

/-- R44 (e), R82: a merged-units byte presented in its format runs the row it selects, and that is UNITDEC. The
presentation is the model's (log 2). -/
def Obligations.MergedByteRunsItsRow : Prop :=
  ∀ (s : State) (m : Byte) (ac r : Bit), s.request = some ⟨.mergedunits, [m, bitByte ac, bitByte r]⟩ →
    step s = exec (.unitdec m ac r) s

/-- R84: the fallback row is selected exactly when no base flag is set, and shows five spaces whatever AC is. The
presentation that selects it is the model's (log 2). -/
def Obligations.FallbackExactlyWithoutABaseFlag : Prop :=
  ∀ (s : State) (m : Byte) (ac r : Bit),
    (decode s.cfg ⟨.mergedunits, [m, bitByte ac, bitByte r]⟩ = .ok (.unitNone m ac r) ↔
      m &&& s.cfg.uOhm = 0 ∧ m &&& s.cfg.uAmp = 0 ∧ m &&& s.cfg.uVolt = 0)
    ∧ (m &&& s.cfg.uOhm = 0 ∧ m &&& s.cfg.uAmp = 0 ∧ m &&& s.cfg.uVolt = 0 →
        exec (.unitdec m ac r) s = .next { s with unitStr := List.replicate 5 (asc ' ') })

/-- R85: Ohms over Amps over Volts; kilo over mega; micro over milli; kiloOhm never shows as plain Ohm; milliVolt stands before Volt. -/
def Obligations.UnitPrioritiesHold : Prop :=
  ∀ (s t : State) (m : Byte) (ac r : Bit), exec (.unitdec m ac r) s = .next t →
    let ohm := m &&& s.cfg.uOhm ≠ 0
    let amp := m &&& s.cfg.uAmp ≠ 0
    let volt := m &&& s.cfg.uVolt ≠ 0
    (ohm → t.unitStr[1]? = some (if r then s.cfg.omega1 else s.cfg.omega0))
    ∧ (¬ohm → amp → t.unitStr[1]? = some (asc 'A'))
    ∧ (¬ohm → ¬amp → volt → t.unitStr[1]? = some (asc 'V'))
    ∧ (ohm → m &&& s.cfg.uKilo ≠ 0 → t.unitStr[0]? = some (asc 'k'))
    ∧ (¬ohm → amp → m &&& s.cfg.uMicro ≠ 0 → t.unitStr[0]? = some (if r then s.cfg.mu1 else s.cfg.mu0))
    ∧ (¬ohm → ¬amp → volt → m &&& s.cfg.uMilliV ≠ 0 → t.unitStr[0]? = some (asc 'm'))

/-- R86: with only the Volts flag set and AC clear the unit string is `" V   "`, under every legal configuration;
under CFG0 the byte is 0x01. -/
def Obligations.VoltAloneScenario : Prop :=
  (∀ (s : State) (r : Bit), s.cfg.legal = true →
    exec (.unitdec s.cfg.uVolt false r) s = .next { s with unitStr := [0x20, 0x56, 0x20, 0x20, 0x20] })
  ∧ cfg0.uVolt = 0x01

/-- R83: the selector changes only the Ω cell of the Ohm rows and the μ cell of the microAmp row. The encoding of the selector and one
cell per glyph are the spec's decisions D8 and D9 (logs 13, 14). -/
def Obligations.SelectorChangesOnlyGlyphCells : Prop :=
  ∀ (s t u : State) (m : Byte) (ac : Bit), exec (.unitdec m ac false) s = .next t → exec (.unitdec m ac true) s = .next u →
    ∀ i : Nat, t.unitStr[i]? = u.unitStr[i]?
      ∨ (i = 1 ∧ m &&& s.cfg.uOhm ≠ 0 ∧ t.unitStr[i]? = some s.cfg.omega0 ∧ u.unitStr[i]? = some s.cfg.omega1)
      ∨ (i = 0 ∧ m &&& s.cfg.uOhm = 0 ∧ m &&& s.cfg.uAmp ≠ 0 ∧ m &&& s.cfg.uMicro ≠ 0
          ∧ t.unitStr[i]? = some s.cfg.mu0 ∧ u.unitStr[i]? = some s.cfg.mu1)

/-- R87: UNITDEC is total, its string has five cells, and for one selector at most 14 strings occur. -/
def Obligations.UnitStringsAreFourteen : Prop :=
  ∀ (s : State) (r : Bit), ∃ l : List (List Cell), l.length = 14 ∧
    ∀ (m : Byte) (ac : Bit), ∃ t, exec (.unitdec m ac r) s = .next t ∧ t.unitStr ∈ l ∧ t.unitStr.length = 5

/-! ## The 7-segment decoder (spec/44_segment.md) -/

/-- R90: the table's character for a key of the table, else `'_'`; a byte with bit 2 set finds no row; the point bit of a digit byte
never changes its character. -/
def Obligations.SegdecLooksTheKeyUp : Prop :=
  ∀ (s : State) (k : Byte), s.cfg.legal = true →
    ∃ t, exec (.segdec k) s = .next t ∧ t = { s with segChar := t.segChar }
      ∧ (∀ ch : Cell, (k, ch) ∈ s.cfg.segtab → t.segChar = ch)
      ∧ ((∀ ch : Cell, (k, ch) ∉ s.cfg.segtab) → t.segChar = asc '_')
      ∧ (k.getLsbD 2 = true → t.segChar = asc '_')
      ∧ exec (.segdec (k &&& 0xFB)) s = exec (.segdec ((k ^^^ 0x04) &&& 0xFB)) s

/-- From R91 and R96: under a legal configuration SEGDEC shows `'_'` for every key that is not in the table and for no other; what that
means for the digit string is `EachUnknownCodeShowsOnce`. -/
def Obligations.SentinelExactlyOffTheTable : Prop :=
  ∀ (s : State) (k : Byte), s.cfg.legal = true →
    ∃ t, exec (.segdec k) s = .next t ∧ (t.segChar = asc '_' ↔ ∀ ch : Cell, (k, ch) ∉ s.cfg.segtab)

/-- R92: the eight rows the source fixes are in every legal table; with and without the point a digit byte of such a key shows its
character. The row 0x32 is expected pending hardware confirmation (R94, log 17). -/
def Obligations.SourceRowsShow : Prop :=
  ∀ (s : State) (b : Byte) (row : Byte × Cell), s.cfg.legal = true → s.request = some ⟨.segcode, [b]⟩ →
    row ∈ [(0x00#8, asc ' '), (0xEB#8, asc '0'), (0xC0#8, asc '1'), (0x7A#8, asc '2'), (0xF8#8, asc '3'), (0xD1#8, asc '4'),
      (0xB9#8, asc '5'), (0x32#8, asc 'c')] →
    b = row.1 ∨ b = row.1 ||| 0x04 → ∃ t, step s = .next t ∧ t.segChar = row.2

/-- The 24 SEGCODE rows: each row's character (R92, R93, R94, R91). -/
def Obligations.SegRowsShowTheirCharacters : Prop :=
  ∀ (s : State) (b : Byte),
    exec (.segBlank b) s = .next { s with segChar := asc ' ' } ∧ exec (.seg0 b) s = .next { s with segChar := asc '0' }
    ∧ exec (.seg1 b) s = .next { s with segChar := asc '1' } ∧ exec (.seg2 b) s = .next { s with segChar := asc '2' }
    ∧ exec (.seg3 b) s = .next { s with segChar := asc '3' } ∧ exec (.seg4 b) s = .next { s with segChar := asc '4' }
    ∧ exec (.seg5 b) s = .next { s with segChar := asc '5' } ∧ exec (.seg6 b) s = .next { s with segChar := asc '6' }
    ∧ exec (.seg7 b) s = .next { s with segChar := asc '7' } ∧ exec (.seg8 b) s = .next { s with segChar := asc '8' }
    ∧ exec (.seg9 b) s = .next { s with segChar := asc '9' } ∧ exec (.segCapA b) s = .next { s with segChar := asc 'A' }
    ∧ exec (.segCapC b) s = .next { s with segChar := asc 'C' } ∧ exec (.segCapE b) s = .next { s with segChar := asc 'E' }
    ∧ exec (.segCapH b) s = .next { s with segChar := asc 'H' } ∧ exec (.segCapL b) s = .next { s with segChar := asc 'L' }
    ∧ exec (.segLowC b) s = .next { s with segChar := asc 'c' } ∧ exec (.segLowN b) s = .next { s with segChar := asc 'n' }
    ∧ exec (.segLowO b) s = .next { s with segChar := asc 'o' } ∧ exec (.segLowR b) s = .next { s with segChar := asc 'r' }
    ∧ exec (.segLowT b) s = .next { s with segChar := asc 't' } ∧ exec (.segLowU b) s = .next { s with segChar := asc 'u' }
    ∧ exec (.segEq b) s = .next { s with segChar := asc '=' } ∧ exec (.segUnknown b) s = .next { s with segChar := asc '_' }

/-- R44 (b), R97: a digit byte presented in its format runs the row it selects, and that is the lookup of its key, under every
configuration. -/
def Obligations.DigitByteRunsItsRow : Prop :=
  ∀ (s : State) (b : Byte), s.request = some ⟨.segcode, [b]⟩ → step s = exec (.segdec (b &&& 0xFB)) s

/-- R97, last sentence, about CFG0's table (log 7): 46 byte values show a table character, the other 210 show `'_'`.
The count takes in the unconfirmed row 0x32 (log 17). -/
def Obligations.ReferenceTableShowsFortySixBytes : Prop :=
  (List.range 256).countP (fun n => segdecOf cfg0 (segKey (BitVec.ofNat 8 n)) != asc '_') = 46
  ∧ (List.range 256).countP (fun n => segdecOf cfg0 (segKey (BitVec.ofNat 8 n)) == asc '_') = 210

/-! ## The digit string (spec/45_digits.md) -/

/-- R100: `'-'` if NEG is 1, else a space; for every mode-status byte, `'-'` exactly when its NEG bit is set. The presentation of
that byte is the model's (log 2). -/
def Obligations.SignCharacterFollowsNeg : Prop :=
  (∀ (s : State) (neg : Bit), exec (.signch neg) s = .next { s with signChar := if neg then asc '-' else asc ' ' })
  ∧ ∀ (s : State) (ms : Byte), s.request = some ⟨.signch, [ms]⟩ →
      ∃ t, step s = .next t ∧ t.signChar = if ms.getLsbD s.cfg.bitNeg then asc '-' else asc ' '

/-- R103 with R102 and R104: the closed form of the digit string, the points and keys of the six bytes, and that the selector is
ignored. The place of the point and of the compensation space are the spec's decisions D13 and D12 (log 15). -/
def Obligations.DigitsClosedForm : Prop :=
  ∀ (s : State) (p : Packet) (r : Bit), ∃ t, exec (.digits p r) s = .next t ∧ exec (.digits p (!r)) s = .next t
    ∧ t = { s with dp := t.dp, key := t.key, dpFound := t.dpFound, digitStr := t.digitStr }
    ∧ (∀ k : Fin 6, t.dp[k] = (p[9 + k.val]'(by omega)).getLsbD 2 ∧ t.key[k] = (p[9 + k.val]'(by omega)) &&& 0xFB)
    ∧ t.digitStr = (if ∃ k : Fin 6, t.dp[k] = true then [] else [asc ' '])
        ++ [if p[8].getLsbD s.cfg.bitNeg then asc '-' else asc ' ']
        ++ (List.finRange 6).flatMap fun k => (if t.dp[k] then [asc '.'] else []) ++ [segdecOf s.cfg t.key[k]]

/-- R101: `dps` is the sum of the six points, at most 6, and `dp_found` is `dps >= 1`. -/
def Obligations.PointsAreCounted : Prop :=
  ∀ (s : State) (p : Packet) (r : Bit), ∃ t, exec (.digits p r) s = .next t
    ∧ dpsOf t.dp = ∑ k : Fin 6, (if (p[9 + k.val]'(by omega)).getLsbD 2 then 1 else 0)
    ∧ dpsOf t.dp ≤ 6 ∧ t.dpFound = decide (1 ≤ dpsOf t.dp)

/-- R104: with no point the string is a space, the sign, six characters; with a point it starts with the sign (D12, log 15). -/
def Obligations.WidthCompensationStandsFirst : Prop :=
  ∀ (s t : State) (p : Packet) (r : Bit), exec (.digits p r) s = .next t →
    ((∀ k : Fin 6, (p[9 + k.val]'(by omega)).getLsbD 2 = false) →
      t.digitStr = asc ' ' :: (if p[8].getLsbD s.cfg.bitNeg then asc '-' else asc ' ')
        :: (List.finRange 6).map fun k => segdecOf s.cfg ((p[9 + k.val]'(by omega)) &&& 0xFB))
    ∧ ((∃ k : Fin 6, (p[9 + k.val]'(by omega)).getLsbD 2 = true) →
      t.digitStr.head? = some (if p[8].getLsbD s.cfg.bitNeg then asc '-' else asc ' '))

/-- R105, R107: eight cells with at most one point, 7 + `dps` with more, never outside 8 to 13 (D11, D14, log 15). -/
def Obligations.DigitStringLength : Prop :=
  ∀ (s : State) (p : Packet) (r : Bit), ∃ t, exec (.digits p r) s = .next t
    ∧ (dpsOf t.dp ≤ 1 → t.digitStr.length = 8) ∧ (2 ≤ dpsOf t.dp → t.digitStr.length = 7 + dpsOf t.dp)
    ∧ 8 ≤ t.digitStr.length ∧ t.digitStr.length ≤ 13

/-- R106, TV2: the source's scenario, under every legal configuration. -/
def Obligations.DigitScenario : Prop :=
  ∀ (s : State) (p : Packet) (r : Bit), s.cfg.legal = true → p[8].getLsbD s.cfg.bitNeg = false →
    p[9] = 0xEB → p[10] = 0xC0 → p[11] = 0x7A → p[12] = 0xF8 → p[13] = 0xD1 → p[14] = 0xB9 →
    ∃ t, exec (.digits p r) s = .next t ∧ t.digitStr = str [' ', ' ', '0', '1', '2', '3', '4', '5']

/-- R108: a digit string is made of spaces, the sign, points, table characters and `'_'`; where no table row has `'-'`, a `'-'` is the
sign only. -/
def Obligations.DigitStringAlphabet : Prop :=
  ∀ (s t : State) (p : Packet) (r : Bit), exec (.digits p r) s = .next t →
    (∀ x ∈ t.digitStr, x = asc ' ' ∨ x = asc '-' ∨ x = asc '.' ∨ x = asc '_' ∨ ∃ k, (k, x) ∈ s.cfg.segtab)
    ∧ ((∀ k, (k, asc '-') ∉ s.cfg.segtab) → t.digitStr.count (asc '-') = if p[8].getLsbD s.cfg.bitNeg then 1 else 0)

/-- R121 (a), R124: under a legal configuration the digit string holds one `'_'` for each digit byte with an unknown key. -/
def Obligations.EachUnknownCodeShowsOnce : Prop :=
  ∀ (s : State) (p : Packet) (r : Bit), s.cfg.legal = true → ∃ t, exec (.digits p r) s = .next t
    ∧ t.digitStr.count (asc '_') =
        (List.finRange 6).countP fun k => decide (∀ row ∈ s.cfg.segtab, row.1 ≠ (p[9 + k.val]'(by omega)) &&& 0xFB)

/-! ## The reading formatter (spec/46_format.md) -/

/-- R110: the triple of the three strings, no cell changed. -/
def Obligations.FormatComposes : Prop :=
  ∀ (s : State) (m g u : List Cell), exec (.format m g u) s = .next { s with reading := { mode := m, digits := g, units := u } }

/-- R112: the longest prefix made only of spaces and signs is removed, nothing else (D17, log 22). -/
def Obligations.StripRemovesTheLongestPrefix : Prop :=
  ∀ (s : State) (g : List Cell), ∃ t pre, exec (.strip g) s = .next t ∧ t = { s with stripped := t.stripped }
    ∧ g = pre ++ t.stripped ∧ (∀ x ∈ pre, x = asc ' ' ∨ x = asc '-')
    ∧ ∀ x, t.stripped.head? = some x → x ≠ asc ' ' ∧ x ≠ asc '-'

/-- R112: the stripped string of a negative reading is that of the positive reading with the same digits (D17, log 22). -/
def Obligations.StripForgetsTheSign : Prop :=
  ∀ (s t u : State) (p q : Packet) (r r' : Bit), (∀ i : Fin 18, 9 ≤ i.val → i.val ≤ 14 → p[i] = q[i]) →
    exec (.digits p r) s = .next t → exec (.digits q r') s = .next u →
    ∃ v w, exec (.strip t.digitStr) t = .next v ∧ exec (.strip u.digitStr) u = .next w ∧ v.stripped = w.stripped

/-- R113: one evaluation of DECODE is its stages in their order, each on the results of the stages before it. -/
def Obligations.DecodeIsItsStages : Prop :=
  ∀ (s : State) (p : Packet) (r : Bit), ∃ s1 s2 s3 s4 s5 s6 s7 s8,
    exec (.fields p) s = .next s1
    ∧ exec (.xmode s1.ms) s1 = .next s2
    ∧ exec (.xcal p) s2 = .next s3
    ∧ exec (.merge s3.us1 s3.us2) s3 = .next s4
    ∧ exec (.getmode s4.flags.auto s4.flags.rel s4.flags.db s4.flags.sto s4.flags.rcl s4.cal) s4 = .next s5
    ∧ exec (.unitdec s5.merged s5.flags.ac r) s5 = .next s6
    ∧ exec (.digits p r) s6 = .next s7
    ∧ exec (.format s7.modeStr s7.digitStr s7.unitStr) s7 = .next s8
    ∧ exec (.decode p r) s = .next s8

/-- R114 for every configuration: the mode string depends on its five flags and CAL, the unit string on byte 15, bits 1 and 2 of byte
16, AC and the selector, the digit string on NEG and the digit bytes, and on nothing else. -/
def Obligations.OutputsDependOnTheirInputsOnly : Prop :=
  ∀ (s t u : State) (p q : Packet) (r r' : Bit), exec (.decode p r) s = .next t → exec (.decode q r') s = .next u →
    let agree := fun f : Flag => p[8].getLsbD (s.cfg.modeBit f) = q[8].getLsbD (s.cfg.modeBit f)
    (agree .auto → agree .rel → agree .db → agree .sto → agree .rcl → s.cfg.calSel.eval p = s.cfg.calSel.eval q →
      t.modeStr = u.modeStr)
    ∧ (p[15] = q[15] → p[16].getLsbD 1 = q[16].getLsbD 1 → p[16].getLsbD 2 = q[16].getLsbD 2 → agree .ac → r = r' →
      t.unitStr = u.unitStr)
    ∧ (agree .neg → (∀ i : Fin 18, 9 ≤ i.val → i.val ≤ 14 → p[i] = q[i]) → t.digitStr = u.digitStr)

/-- R115: the widths of the three outputs of every evaluation of the whole block (digit width 8: C2, D11, log 15). -/
def Obligations.OutputWidths : Prop :=
  ∀ s : State, s.request = none → ∃ t, step s = .next t
    ∧ t.reading = { mode := t.modeStr, digits := t.digitStr, units := t.unitStr }
    ∧ t.unitStr.length = 5 ∧ t.modeStr.length = 15 ∧ (dpsOf t.dp ≤ 1 → t.digitStr.length = 8)
    ∧ t.digitStr.length = 8 + max 0 (dpsOf t.dp - 1)

/-! ## The MODESTATUS rows (spec/40_extract.md R51) -/

/-- The eight flag rows: each sets its flag to its bit of the mode-status byte (R51). That a row leaves the other seven flag lines as
they are is the model's choice (DESIGN CHOICE, log 4). -/
def Obligations.FlagRowsSetTheirFlag : Prop :=
  ∀ (s : State) (ms : Byte),
    exec (.flagAuto ms) s = .next { s with flags := { s.flags with auto := ms.getLsbD 0 } }
    ∧ exec (.flagRel ms) s = .next { s with flags := { s.flags with rel := ms.getLsbD s.cfg.bitRel } }
    ∧ exec (.flagBat ms) s = .next { s with flags := { s.flags with bat := ms.getLsbD s.cfg.bitBat } }
    ∧ exec (.flagAc ms) s = .next { s with flags := { s.flags with ac := ms.getLsbD s.cfg.bitAc } }
    ∧ exec (.flagDb ms) s = .next { s with flags := { s.flags with db := ms.getLsbD s.cfg.bitDb } }
    ∧ exec (.flagSto ms) s = .next { s with flags := { s.flags with sto := ms.getLsbD s.cfg.bitSto } }
    ∧ exec (.flagRcl ms) s = .next { s with flags := { s.flags with rcl := ms.getLsbD s.cfg.bitRcl } }
    ∧ exec (.flagNeg ms) s = .next { s with flags := { s.flags with neg := ms.getLsbD s.cfg.bitNeg } }

/-- The eight rows on one mode-status byte, one after the other, are XMODE. Each row's own flag is R51's; that the rows add up rests on
the model's choice that a row keeps the other seven flag lines (DESIGN CHOICE, log 4). -/
def Obligations.EightFlagRowsAreXmode : Prop :=
  ∀ (s : State) (ms : Byte), ∃ s1 s2 s3 s4 s5 s6 s7 s8,
    exec (.flagAuto ms) s = .next s1 ∧ exec (.flagRel ms) s1 = .next s2 ∧ exec (.flagBat ms) s2 = .next s3
    ∧ exec (.flagAc ms) s3 = .next s4 ∧ exec (.flagDb ms) s4 = .next s5 ∧ exec (.flagSto ms) s5 = .next s6
    ∧ exec (.flagRcl ms) s6 = .next s7 ∧ exec (.flagNeg ms) s7 = .next s8 ∧ exec (.xmode ms) s = .next s8

/-! ## The whole machine -/

/-- R25: no operation writes the packet, the configuration or the other inputs; the result lines it writes are the model's (log 4). -/
def Obligations.InputsAreNeverWritten : Prop :=
  ∀ (i : Instr) (s t : State), exec i s = .next t →
    (∀ a : Fin 18, Memory.readByte t.mem a = Memory.readByte s.mem a) ∧ t.mem = s.mem ∧ t.cfg = s.cfg ∧ t.rsel = s.rsel
      ∧ t.request = s.request

/-- From R120: every operation on every operand and every packet at the inputs gives a next state: no fault, no refusal. The third
clause, a well-formed instruction presented by its encoding, is about the model's own presentation (DESIGN CHOICE, log 2). -/
def Obligations.EveryLegalInputIsEvaluated : Prop :=
  (∀ (i : Instr) (s : State), ∃ t, exec i s = .next t)
  ∧ (∀ s : State, s.request = none → ∃ t, step s = .next t)
  ∧ ∀ (s : State) (i : Instr), s.cfg.legal = true → i.wf s.cfg = true → s.request = some (encode s.cfg i) → ∃ t, step s = .next t

/-- R26, R126: exactly the buffers of 18 bytes are presented, each byte at its index; any other is refused by name and gets no output
(D15, log 18). -/
def Obligations.OnlyEighteenBytesAreAPacket : Prop :=
  ∀ (s : State) (buffer : List Byte) (r : Bit),
    (∀ h : buffer.length = 18, ∃ t, s.present buffer r = .next t ∧ (∀ a : Fin 18, Memory.readByte t.mem a = buffer[a.val]'(by omega))
      ∧ Memory.wf t.mem = true ∧ t = { s with mem := t.mem, rsel := r, request := none })
    ∧ (buffer.length ≠ 18 → s.present buffer r = .refused (.notAPacket buffer.length))

/-- A step runs the decoded instruction: with an operation presented alone, that one; with none, DECODE on the packet and the selector
at the inputs; a presentation that decodes to no instruction is refused with the decoder's reason. The presentation is the model's own
(log 2). -/
def Obligations.StepRunsTheDecodedInstruction : Prop :=
  ∀ s : State,
    (∀ (q : Request) (i : Instr), s.request = some q → decode s.cfg q = .ok i → step s = exec i s)
    ∧ (∀ (q : Request) (e : DecodeError), s.request = some q → decode s.cfg q = .error e → step s = .refused (.notAnInput e))
    ∧ (s.request = none → step s = exec (.decode (Vector.ofFn (Memory.readByte s.mem)) s.rsel) s)

/-- Decoding the encoding of a well-formed instruction gives it back, for every instruction and every legal configuration. -/
def Obligations.DecodeOfEncode : Prop :=
  ∀ (c : Cfg) (i : Instr), c.legal = true → i.wf c = true → decode c (encode c i) = .ok i

/-- A few words written out from the spec's encodings (CFG0's table) and the instructions they stand for. -/
def Obligations.WrittenWordsDecode : Prop :=
  decode cfg0 ⟨.xmode, [0b10001010]⟩ = .ok (.xmode 0x8A)
  ∧ decode cfg0 ⟨.getmode, [0b01110011, 0]⟩ = .ok (.getmode true true true true true false)
  ∧ decode cfg0 ⟨.merge, [0x08, 0b00000010]⟩ = .ok (.merge 0x08 0x02)
  ∧ decode cfg0 ⟨.segcode, [0b11101111]⟩ = .ok (.seg0 0xEF)
  ∧ decode cfg0 ⟨.segcode, [0b00010000]⟩ = .ok (.segUnknown 0x10)
  ∧ decode cfg0 ⟨.modestatus .neg, [0b10000000]⟩ = .ok (.flagNeg 0x80)
  ∧ decode cfg0 ⟨.unitstatus2, [0b00000110]⟩ = .ok (.us2MergeField 0x06)
  ∧ decode cfg0 ⟨.mergedunits, [0b10110000, 0, 1]⟩ = .ok (.unitKiloohm 0xB0 false true)
  ∧ decode cfg0 ⟨.signch, [0b10001010]⟩ = .ok (.signch true)

/-- Every step keeps the invariant: a legal configuration, the canonical packet memory, the widths of the strings, and what the rules say
of each result line. That the lines are retained is the model's choice (log 4), as is the canonical memory with zero unlisted (log 6);
width 8 with one point for each set bit and the head of a stripped string are the spec's decisions D11, D14 (log 15) and D17 (log 22);
the merge field's line is log 27's. -/
def Obligations.StepKeepsTheInvariant : Prop :=
  ∀ s t : State, s.Inv → step s = .next t → t.Inv

/-- The invariant holds of the instance under CFG0 (logs 5, 6, 7). -/
def Obligations.ResetMeetsTheInvariant : Prop := State.reset.Inv

/-- R135, TV18: the outputs at reset are DECODE of the inputs that stand there, so the first step changes nothing; they are 15, 8 and 5
spaces. That these inputs stand there is the model's choice (logs 5, 6, 7). -/
def Obligations.ResetOutputsAreDecodeOfItsInputs : Prop :=
  step State.reset = .next State.reset
  ∧ State.reset.reading = { mode := List.replicate 15 (asc ' '), digits := List.replicate 8 (asc ' '), units := List.replicate 5 (asc ' ') }

/-- R10, R29: evaluations do not interact. Two states with the same configuration and the same presentation, whatever their result
lines hold: every result line is the same after a step of each, or no step wrote it. With the whole block evaluated, every value that
DECODE derives is the same. The result lines are the model's (log 4). -/
def Obligations.EvaluationsDoNotInteract : Prop :=
  ∀ s u t v : State, s.cfg = u.cfg → fetch s = fetch u → step s = .next t → step u = .next v →
    let same := fun {α : Type} (x : State → α) => x t = x v ∨ (x t = x s ∧ x v = x u)
    (same State.ms ∧ same State.d ∧ same State.us1 ∧ same State.us2 ∧ (∀ f : Flag, same fun w => w.flags.get f) ∧ same State.cal
      ∧ same State.xdp ∧ same State.xseg ∧ same State.modeStr ∧ same State.mergeField ∧ same State.merged ∧ same State.unitStr
      ∧ same State.segChar ∧ same State.signChar ∧ same State.dp ∧ same State.key ∧ same State.dpFound ∧ same State.digitStr
      ∧ same State.reading ∧ same State.stripped)
    ∧ (s.request = none → u.request = none → t.reading = v.reading ∧ t.flags = v.flags ∧ t.cal = v.cal ∧ t.merged = v.merged
      ∧ t.ms = v.ms ∧ t.d = v.d ∧ t.us1 = v.us1 ∧ t.us2 = v.us2 ∧ t.dp = v.dp ∧ t.key = v.key ∧ t.dpFound = v.dpFound
      ∧ t.modeStr = v.modeStr ∧ t.unitStr = v.unitStr ∧ t.digitStr = v.digitStr)

/-- R10, R27: while the inputs stay, a second evaluation gives the same outputs again (in the model's result lines, log 4). -/
def Obligations.SecondStepChangesNothing : Prop :=
  ∀ s t : State, step s = .next t → step t = .next t

/-- Log 3: presenting a word of the table makes the very next step evaluate exactly the instruction the decoder reads from it. -/
def Obligations.TableWordIsWhatStepRuns : Prop :=
  ∀ (s : State) (nbits w : Nat) (i : Instr), decodeTableWord nbits w = some i →
    ∃ t, step (s.withFetchWord nbits w) = .next t ∧ exec i (s.withFetchWord nbits w) = .next t
end

