-- ==== Sys2Proof/Laws/Decode.lean ====
section
/-! SUPPORT. The decoder's operand readers: what each reads back, and when each refuses. -/

namespace Sys2Proof

@[simp] theorem takeBit_bitByte (v : Bit) : takeBit (bitByte v) = .ok v := by cases v <;> rfl

@[simp] theorem takePacket_toList (pkt : Packet) : takePacket pkt.toList = .ok pkt := by
  simp only [takePacket, Vector.length_toList, dite_true]; rfl

/-- A buffer of any other length is no packet. -/
theorem takePacket_error {bytes : List Byte} (h : bytes.length ≠ 18) : takePacket bytes = .error (.notAPacket bytes.length) := by
  simp [takePacket, h]

@[simp] theorem takePacketBit_toList (pkt : Packet) (v : Bit) (f : Packet → Bit → Instr) :
    takePacketBit (pkt.toList ++ [bitByte v]) f = .ok (f pkt v) := by
  simp [takePacketBit]

@[simp] theorem takeByteBits_bytes (b : Byte) (x y : Bit) (f : Byte → Bit → Bit → Instr) :
    takeByteBits [b, bitByte x, bitByte y] f = .ok (f b x y) := by
  simp [takeByteBits]

namespace Machine

/-- With no operation presented alone, what is fetched decodes to DECODE on the packet and the selector at the inputs. -/
theorem decode_fetch_none {s : State} (h : s.request = none) :
    decode s.cfg (fetch s) = .ok (.decode (Memory.packet s.mem) s.rsel) := by
  simp [fetch, h, decode]

end Machine

end Sys2Proof
end

