-- ==== Sys2Proof/Laws/Exec.lean ====
section
/-! SUPPORT. What exec answers for each instruction, in terms of the named updates of State, once each, so that no later proof
unfolds exec; what a step does; and the SEGCODE dispatch. -/

namespace Sys2Proof.Machine

variable (s : State)

@[simp] theorem exec_fields (p : Packet) : exec (.fields p) s = .next (s.evalFields p) := rfl
@[simp] theorem exec_xmode (ms : Byte) : exec (.xmode ms) s = .next (s.setFlags (xmodeOf s.cfg ms)) := rfl
@[simp] theorem exec_xcal (p : Packet) : exec (.xcal p) s = .next (s.setCal (calOf s.cfg p)) := rfl
@[simp] theorem exec_xdp (b : Byte) : exec (.xdp b) s = .next (s.setXdp (dpBit b)) := rfl
@[simp] theorem exec_xseg (b : Byte) : exec (.xseg b) s = .next (s.setXseg (segKey b)) := rfl
@[simp] theorem exec_getmode (a r d x l c : Bit) : exec (.getmode a r d x l c) s = .next (s.setModeStr (getmodeCells a r d x l c)) := rfl
@[simp] theorem exec_merge (a b : Byte) : exec (.merge a b) s = .next (s.setMerged (mergeBytes a b)) := rfl
@[simp] theorem exec_unitdec (m : Byte) (ac r : Bit) : exec (.unitdec m ac r) s = .next (s.setUnitStr (unitdecOf s.cfg m ac r)) := rfl
@[simp] theorem exec_segdec (k : Byte) : exec (.segdec k) s = .next (s.setSegChar (segdecOf s.cfg k)) := rfl
@[simp] theorem exec_signch (n : Bit) : exec (.signch n) s = .next (s.setSignChar (signCell n)) := rfl
@[simp] theorem exec_digits (p : Packet) (r : Bit) : exec (.digits p r) s = .next (s.evalDigits p r) := rfl
@[simp] theorem exec_format (m g u : List Cell) : exec (.format m g u) s = .next (s.setReading ⟨m, g, u⟩) := rfl
@[simp] theorem exec_strip (g : List Cell) : exec (.strip g) s = .next (s.setStripped (stripCells g)) := rfl

/-- DECODE as the updates of its stages (spec/46_format.md R113). -/
def evalDecode (p : Packet) (r : Bit) : State :=
  let mode := getmodeCells (flagBit s.cfg (pktMs p) .auto) (flagBit s.cfg (pktMs p) .rel) (flagBit s.cfg (pktMs p) .db)
    (flagBit s.cfg (pktMs p) .sto) (flagBit s.cfg (pktMs p) .rcl) (calOf s.cfg p)
  let merged := mergeBytes (pktUs1 p) (pktUs2 p)
  let units := unitdecOf s.cfg merged (flagBit s.cfg (pktMs p) .ac) r
  { s with
    ms := pktMs p, d := pktDigits p, us1 := pktUs1 p, us2 := pktUs2 p, flags := xmodeOf s.cfg (pktMs p), cal := calOf s.cfg p,
    merged := merged, modeStr := mode, unitStr := units, dp := pktPoints p, key := pktKeys p,
    dpFound := (digitWalk s.cfg (flagBit s.cfg (pktMs p) .neg) (pktDigits p)).found, digitStr := digitsOf s.cfg p r,
    reading := ⟨mode, digitsOf s.cfg p r, units⟩ }

@[simp] theorem exec_decode (p : Packet) (r : Bit) : exec (.decode p r) s = .next (evalDecode s p r) := rfl

@[simp] theorem exec_segBlank (b : Byte) : exec (.segBlank b) s = .next (s.setSegChar (asc ' ')) := rfl
@[simp] theorem exec_seg0 (b : Byte) : exec (.seg0 b) s = .next (s.setSegChar (asc '0')) := rfl
@[simp] theorem exec_seg1 (b : Byte) : exec (.seg1 b) s = .next (s.setSegChar (asc '1')) := rfl
@[simp] theorem exec_seg2 (b : Byte) : exec (.seg2 b) s = .next (s.setSegChar (asc '2')) := rfl
@[simp] theorem exec_seg3 (b : Byte) : exec (.seg3 b) s = .next (s.setSegChar (asc '3')) := rfl
@[simp] theorem exec_seg4 (b : Byte) : exec (.seg4 b) s = .next (s.setSegChar (asc '4')) := rfl
@[simp] theorem exec_seg5 (b : Byte) : exec (.seg5 b) s = .next (s.setSegChar (asc '5')) := rfl
@[simp] theorem exec_seg6 (b : Byte) : exec (.seg6 b) s = .next (s.setSegChar (asc '6')) := rfl
@[simp] theorem exec_seg7 (b : Byte) : exec (.seg7 b) s = .next (s.setSegChar (asc '7')) := rfl
@[simp] theorem exec_seg8 (b : Byte) : exec (.seg8 b) s = .next (s.setSegChar (asc '8')) := rfl
@[simp] theorem exec_seg9 (b : Byte) : exec (.seg9 b) s = .next (s.setSegChar (asc '9')) := rfl
@[simp] theorem exec_segCapA (b : Byte) : exec (.segCapA b) s = .next (s.setSegChar (asc 'A')) := rfl
@[simp] theorem exec_segCapC (b : Byte) : exec (.segCapC b) s = .next (s.setSegChar (asc 'C')) := rfl
@[simp] theorem exec_segCapE (b : Byte) : exec (.segCapE b) s = .next (s.setSegChar (asc 'E')) := rfl
@[simp] theorem exec_segCapH (b : Byte) : exec (.segCapH b) s = .next (s.setSegChar (asc 'H')) := rfl
@[simp] theorem exec_segCapL (b : Byte) : exec (.segCapL b) s = .next (s.setSegChar (asc 'L')) := rfl
@[simp] theorem exec_segLowC (b : Byte) : exec (.segLowC b) s = .next (s.setSegChar (asc 'c')) := rfl
@[simp] theorem exec_segLowN (b : Byte) : exec (.segLowN b) s = .next (s.setSegChar (asc 'n')) := rfl
@[simp] theorem exec_segLowO (b : Byte) : exec (.segLowO b) s = .next (s.setSegChar (asc 'o')) := rfl
@[simp] theorem exec_segLowR (b : Byte) : exec (.segLowR b) s = .next (s.setSegChar (asc 'r')) := rfl
@[simp] theorem exec_segLowT (b : Byte) : exec (.segLowT b) s = .next (s.setSegChar (asc 't')) := rfl
@[simp] theorem exec_segLowU (b : Byte) : exec (.segLowU b) s = .next (s.setSegChar (asc 'u')) := rfl
@[simp] theorem exec_segEq (b : Byte) : exec (.segEq b) s = .next (s.setSegChar (asc '=')) := rfl
@[simp] theorem exec_segUnknown (b : Byte) : exec (.segUnknown b) s = .next (s.setSegChar sentinel) := rfl

@[simp] theorem exec_flagAuto (ms : Byte) : exec (.flagAuto ms) s = .next (s.evalFlag .auto ms) := rfl
@[simp] theorem exec_flagRel (ms : Byte) : exec (.flagRel ms) s = .next (s.evalFlag .rel ms) := rfl
@[simp] theorem exec_flagBat (ms : Byte) : exec (.flagBat ms) s = .next (s.evalFlag .bat ms) := rfl
@[simp] theorem exec_flagAc (ms : Byte) : exec (.flagAc ms) s = .next (s.evalFlag .ac ms) := rfl
@[simp] theorem exec_flagDb (ms : Byte) : exec (.flagDb ms) s = .next (s.evalFlag .db ms) := rfl
@[simp] theorem exec_flagSto (ms : Byte) : exec (.flagSto ms) s = .next (s.evalFlag .sto ms) := rfl
@[simp] theorem exec_flagRcl (ms : Byte) : exec (.flagRcl ms) s = .next (s.evalFlag .rcl ms) := rfl
@[simp] theorem exec_flagNeg (ms : Byte) : exec (.flagNeg ms) s = .next (s.evalFlag .neg ms) := rfl
@[simp] theorem exec_flagCal (p : Packet) : exec (.flagCal p) s = .next (s.setCal (calOf s.cfg p)) := rfl
@[simp] theorem exec_us2MergeField (u : Byte) : exec (.us2MergeField u) s = .next (s.setMergeField (us2Field u)) := rfl

@[simp] theorem exec_unitKiloohm (m : Byte) (ac r : Bit) : exec (.unitKiloohm m ac r) s = .next (s.evalUnitRow .kiloOhm ac r) := rfl
@[simp] theorem exec_unitMegaohm (m : Byte) (ac r : Bit) : exec (.unitMegaohm m ac r) s = .next (s.evalUnitRow .megaOhm ac r) := rfl
@[simp] theorem exec_unitOhm (m : Byte) (ac r : Bit) : exec (.unitOhm m ac r) s = .next (s.evalUnitRow .ohm ac r) := rfl
@[simp] theorem exec_unitMicroamp (m : Byte) (ac r : Bit) : exec (.unitMicroamp m ac r) s = .next (s.evalUnitRow .microAmp ac r) := rfl
@[simp] theorem exec_unitMilliamp (m : Byte) (ac r : Bit) : exec (.unitMilliamp m ac r) s = .next (s.evalUnitRow .milliAmp ac r) := rfl
@[simp] theorem exec_unitAmp (m : Byte) (ac r : Bit) : exec (.unitAmp m ac r) s = .next (s.evalUnitRow .amp ac r) := rfl
@[simp] theorem exec_unitMillivolt (m : Byte) (ac r : Bit) : exec (.unitMillivolt m ac r) s = .next (s.evalUnitRow .milliVolt ac r) := rfl
@[simp] theorem exec_unitVolt (m : Byte) (ac r : Bit) : exec (.unitVolt m ac r) s = .next (s.evalUnitRow .volt ac r) := rfl
@[simp] theorem exec_unitNone (m : Byte) (ac r : Bit) : exec (.unitNone m ac r) s = .next (s.evalUnitRow .fallback ac r) := rfl

variable {s : State}

/-- A packet is presented with its selector, and nothing else changes. -/
theorem present_toList (p : Packet) (r : Bit) :
    s.present p.toList r = .next { s with mem := Memory.ofPacket p, rsel := r, request := none } := by
  simp only [State.present, takePacket_toList]

/-- A step with nothing presented alone evaluates the whole block. -/
theorem step_of_none (h : s.request = none) : step s = .next (evalDecode s (Memory.packet s.mem) s.rsel) := by
  simp only [step, decode_fetch_none h, exec_decode]

/-- A step with an operation presented alone. -/
theorem step_of_request {q : Request} {i : Instr} (h : s.request = some q) (hd : decode s.cfg q = .ok i) : step s = exec i s := by
  simp [step, fetch, h, hd]

/-- A step that answers a next state runs an instruction that what is fetched decodes to. -/
theorem step_next {t : State} (h : step s = .next t) : ∃ i, decode s.cfg (fetch s) = .ok i ∧ exec i s = .next t := by
  unfold step at h
  cases hd : decode s.cfg (fetch s) with
  | ok i => rw [hd] at h; exact ⟨i, rfl, h⟩
  | error e => rw [hd] at h; cases h

/-- The row of a character, or the lookup itself for a character with no row: either way the character is shown. -/
theorem exec_segRowOf {ch : Cell} {b : Byte} (h : segdecOf s.cfg (segKey b) = ch) : exec (segRowOf ch b) s = .next (s.setSegChar ch) := by
  have pick : ∀ {P : Prop} [Decidable P] {i j : Instr}, (P → exec i s = .next (s.setSegChar ch)) →
      (¬P → exec j s = .next (s.setSegChar ch)) → exec (if P then i else j) s = .next (s.setSegChar ch) := by
    intro P _ i j hi hj
    split
    · exact hi ‹_›
    · exact hj ‹_›
  unfold segRowOf
  iterate 23 refine pick (fun e => by rw [e]; rfl) fun _ => ?_
  rw [exec_segdec, h]

end Sys2Proof.Machine
end

