-- ==== Sys2Proof/Laws/Memory.lean ====
section
/-! SUPPORT. The packet memory: every operation keeps the canonical form, a read after a write, and the packet read back. -/

namespace Sys2Proof.Machine

theorem Memory.wf_iff (m : List Host.Cell) :
    Memory.wf m = true ↔ m.Pairwise (fun x y => x.1 < y.1) ∧ ∀ x ∈ m, x.1 < 18 ∧ x.2 ≠ Memory.unlisted := by
  simp [Memory.wf]

@[simp] theorem Memory.wf_nil : Memory.wf [] = true := by decide

/-- Every entry of an insertion is an old entry or the new one. -/
theorem Memory.mem_insert {a : Nat} {v : Byte} {m : List Host.Cell} {x : Host.Cell} (h : x ∈ Memory.insert a v m) :
    x ∈ m ∨ (x = (a, v) ∧ v ≠ Memory.unlisted) := by
  induction m with
  | nil =>
    rw [Memory.insert] at h
    split at h
    · simp at h
    · exact .inr ⟨by simpa using h, ‹_›⟩
  | cons y rest ih =>
    rw [Memory.insert] at h
    split_ifs at h <;> simp only [List.mem_cons] at h ⊢
    · rcases h with h | h
      · exact .inl (.inl h)
      · exact (ih h).imp .inr id
    · exact .inl (.inr h)
    · rcases h with h | h
      · exact .inr ⟨h, ‹_›⟩
      · exact .inl (.inr h)
    · exact .inl h
    · rcases h with h | h | h
      · exact .inr ⟨h, ‹_›⟩
      · exact .inl (.inl h)
      · exact .inl (.inr h)

theorem Memory.insert_pairwise {a : Nat} {v : Byte} {m : List Host.Cell} (h : m.Pairwise fun x y => x.1 < y.1) :
    (Memory.insert a v m).Pairwise fun x y => x.1 < y.1 := by
  induction m with
  | nil =>
    rw [Memory.insert]
    split <;> simp
  | cons y rest ih =>
    obtain ⟨hy, hr⟩ := List.pairwise_cons.1 h
    rw [Memory.insert]
    split_ifs with h1 h2 h3 h4
    · refine List.pairwise_cons.2 ⟨fun x hx => ?_, ih hr⟩
      rcases Memory.mem_insert hx with hx | ⟨rfl, -⟩
      · exact hy x hx
      · exact h1
    · exact hr
    · exact List.pairwise_cons.2 ⟨fun x hx => h2 ▸ hy x hx, hr⟩
    · exact h
    · refine List.pairwise_cons.2 ⟨fun x hx => ?_, h⟩
      rcases List.mem_cons.1 hx with rfl | hx
      · change a < x.1; omega
      · have := hy x hx; change a < x.1; omega

/-- A write keeps the canonical form. -/
theorem Memory.writeByte_wf {m : List Host.Cell} (i : Fin 18) (v : Byte) (h : Memory.wf m = true) :
    Memory.wf (Memory.writeByte m i v) = true := by
  rw [Memory.wf_iff] at h ⊢
  refine ⟨Memory.insert_pairwise h.1, fun x hx => ?_⟩
  rcases Memory.mem_insert hx with hx | ⟨rfl, hv⟩
  · exact h.2 x hx
  · exact ⟨i.isLt, hv⟩

theorem Memory.get_cons (x : Host.Cell) (m : List Host.Cell) (b : Nat) :
    Memory.get (x :: m) b = if b = x.1 then x.2 else Memory.get m b := by
  obtain ⟨k, w⟩ := x
  by_cases h : b = k
  · simp [Memory.get, h]
  · have hb : (b == k) = false := by simpa using h
    simp [Memory.get, List.lookup_cons, h, hb]

/-- An address below or between the listed ones reads as an unlisted byte. -/
theorem Memory.get_unlisted {m : List Host.Cell} {a : Nat} (h : ∀ x ∈ m, a ≠ x.1) : Memory.get m a = Memory.unlisted := by
  induction m with
  | nil => rfl
  | cons x rest ih =>
    rw [Memory.get_cons, if_neg (h x (by simp)), ih fun y hy => h y (by simp [hy])]

/-- What an insertion reads as, at every address. -/
theorem Memory.get_insert {m : List Host.Cell} (h : m.Pairwise fun x y => x.1 < y.1) (a b : Nat) (v : Byte) :
    Memory.get (Memory.insert a v m) b = if b = a then v else Memory.get m b := by
  induction m with
  | nil =>
    have h0 : ∀ k, Memory.get [] k = Memory.unlisted := fun _ => rfl
    by_cases hv : v = Memory.unlisted <;> by_cases hb : b = a <;> simp [Memory.insert, hv, hb, Memory.get_cons, h0]
  | cons y rest ih =>
    obtain ⟨hy, hr⟩ := List.pairwise_cons.1 h
    have hrest : ∀ c, c ≤ y.1 → Memory.get rest c = Memory.unlisted := fun c hc =>
      Memory.get_unlisted fun x hx => by have := hy x hx; omega
    rw [Memory.insert]
    by_cases hlt : y.1 < a
    · rw [if_pos hlt, Memory.get_cons, ih hr, Memory.get_cons]
      by_cases hb : b = y.1
      · rw [if_pos hb, if_neg (by omega), if_pos hb]
      · rw [if_neg hb, if_neg hb]
    · rw [if_neg hlt]
      by_cases heq : y.1 = a
      · rw [if_pos heq]
        by_cases hv : v = Memory.unlisted
        · rw [if_pos hv, Memory.get_cons]
          by_cases hb : b = a
          · rw [if_pos hb, hv, hrest b (by omega)]
          · rw [if_neg hb, if_neg (by omega)]
        · rw [if_neg hv, Memory.get_cons, Memory.get_cons]
          by_cases hb : b = a
          · rw [if_pos hb, if_pos hb]
          · rw [if_neg hb, if_neg hb, if_neg (by omega)]
      · rw [if_neg heq]
        by_cases hv : v = Memory.unlisted
        · rw [if_pos hv, Memory.get_cons]
          by_cases hb : b = a
          · rw [if_pos hb, if_neg (by omega), hv, hrest b (by omega)]
          · rw [if_neg hb]
        · rw [if_neg hv, Memory.get_cons]

/-- A read after a write: the value written at its place, every other place as before. -/
theorem Memory.readByte_writeByte {m : List Host.Cell} (h : Memory.wf m = true) (i j : Fin 18) (v : Byte) :
    Memory.readByte (Memory.writeByte m i v) j = if j = i then v else Memory.readByte m j := by
  rw [Memory.readByte, Memory.writeByte, Memory.get_insert ((Memory.wf_iff m).1 h).1]
  simp only [Fin.ext_iff, Memory.readByte]

/-- Writing a list of bytes of a packet: the form is kept, and each listed place holds its byte. -/
theorem Memory.write_list (pkt : Packet) (l : List (Fin 18)) (m : List Host.Cell) (h : Memory.wf m = true) :
    Memory.wf (l.foldl (fun m i => Memory.writeByte m i pkt[i]) m) = true ∧
      ∀ j, Memory.readByte (l.foldl (fun m i => Memory.writeByte m i pkt[i]) m) j = if j ∈ l then pkt[j] else Memory.readByte m j := by
  induction l generalizing m with
  | nil => simpa using h
  | cons i rest ih =>
    have hw := Memory.writeByte_wf i pkt[i] h
    refine ⟨(ih _ hw).1, fun j => ?_⟩
    rw [List.foldl_cons, (ih _ hw).2, Memory.readByte_writeByte h]
    by_cases hj : j = i
    · subst hj; simp
    · simp [hj]

/-- The memory of a packet is in canonical form. -/
theorem Memory.ofPacket_wf (pkt : Packet) : Memory.wf (Memory.ofPacket pkt) = true :=
  (Memory.write_list pkt _ [] Memory.wf_nil).1

/-- Each byte read back from a packet's memory. -/
theorem Memory.readByte_ofPacket (pkt : Packet) (a : Fin 18) : Memory.readByte (Memory.ofPacket pkt) a = pkt[a] := by
  have h := (Memory.write_list pkt (List.finRange 18) [] Memory.wf_nil).2 a
  rwa [if_pos (List.mem_finRange _)] at h

/-- The packet read back from its memory. -/
theorem Memory.packet_ofPacket (pkt : Packet) : Memory.packet (Memory.ofPacket pkt) = pkt := by
  refine Vector.ext fun i hi => ?_
  have h := (Memory.write_list pkt (List.finRange 18) [] Memory.wf_nil).2 ⟨i, hi⟩
  rw [if_pos (List.mem_finRange _)] at h
  rw [Memory.packet, Vector.getElem_ofFn]
  exact h

end Sys2Proof.Machine
end

