-- ==== Sys2Proof/Laws/PerInstr.lean ====
section
/-! SUPPORT. Facts about every instruction as syntax, one lemma per constructor. The family EncodedShape: the encoding of a
well-formed instruction carries as many operand bytes as its format takes (spec/30_encoding.md R35, R42). -/

namespace Sys2Proof

/-- How many operand bytes a format takes: 18 for a packet (spec/20_memory.md R20), one for a byte of a data format (30_encoding.md
R35), 28 to 33 cells for FORMAT's three strings (R42), any string for STRIP (46_format.md R112). -/
def takesBytes : Format → Nat → Bool
  | .fields, n => n == 18
  | .xmode, n => n == 1
  | .xcal, n => n == 18
  | .xdp, n => n == 1
  | .xseg, n => n == 1
  | .getmode, n => n == 2
  | .merge, n => n == 2
  | .unitdec, n => n == 3
  | .segdec, n => n == 1
  | .signch, n => n == 1
  | .digits, n => n == 19
  | .format, n => decide (28 ≤ n) && decide (n ≤ 33)
  | .strip, _ => true
  | .decode, n => n == 19
  | .segcode, n => n == 1
  | .modestatus _, n => n == 1
  | .calflag, n => n == 18
  | .unitstatus2, n => n == 1
  | .mergedunits, n => n == 3

/-- The encoding of a well-formed instruction has its format's number of operand bytes. -/
def Laws.EncodedShape.Statement (i : Instr) : Prop :=
  ∀ c : Cfg, i.wf c = true → takesBytes (encode c i).format (encode c i).bytes.length = true

theorem Laws.EncodedShape.fields (pkt : Packet) : Laws.EncodedShape.Statement (.fields pkt) := fun _ _ => by simp [encode, takesBytes]
theorem Laws.EncodedShape.xmode (ms : Byte) : Laws.EncodedShape.Statement (.xmode ms) := fun _ _ => rfl
theorem Laws.EncodedShape.xcal (pkt : Packet) : Laws.EncodedShape.Statement (.xcal pkt) := fun _ _ => by simp [encode, takesBytes]
theorem Laws.EncodedShape.xdp (b : Byte) : Laws.EncodedShape.Statement (.xdp b) := fun _ _ => rfl
theorem Laws.EncodedShape.xseg (b : Byte) : Laws.EncodedShape.Statement (.xseg b) := fun _ _ => rfl
theorem Laws.EncodedShape.getmode (auto rel db sto rcl cal : Bit) : Laws.EncodedShape.Statement (.getmode auto rel db sto rcl cal) := fun _ _ => rfl
theorem Laws.EncodedShape.merge (us1 us2 : Byte) : Laws.EncodedShape.Statement (.merge us1 us2) := fun _ _ => rfl
theorem Laws.EncodedShape.unitdec (merged : Byte) (ac rsel : Bit) : Laws.EncodedShape.Statement (.unitdec merged ac rsel) := fun _ _ => rfl
theorem Laws.EncodedShape.segdec (key : Byte) : Laws.EncodedShape.Statement (.segdec key) := fun _ _ => rfl
theorem Laws.EncodedShape.signch (neg : Bit) : Laws.EncodedShape.Statement (.signch neg) := fun _ _ => rfl
theorem Laws.EncodedShape.digits (pkt : Packet) (rsel : Bit) : Laws.EncodedShape.Statement (.digits pkt rsel) := fun _ _ => by simp [encode, takesBytes]
theorem Laws.EncodedShape.format (m g u : List Cell) : Laws.EncodedShape.Statement (.format m g u) := fun c h => by
  simp only [Instr.wf, Bool.and_eq_true, beq_iff_eq, decide_eq_true_eq] at h
  simp only [encode, takesBytes, List.length_append, Bool.and_eq_true, decide_eq_true_eq]
  omega
theorem Laws.EncodedShape.strip (g : List Cell) : Laws.EncodedShape.Statement (.strip g) := fun _ _ => rfl
theorem Laws.EncodedShape.decode (pkt : Packet) (rsel : Bit) : Laws.EncodedShape.Statement (.decode pkt rsel) := fun _ _ => by simp [encode, takesBytes]
theorem Laws.EncodedShape.segBlank (b : Byte) : Laws.EncodedShape.Statement (.segBlank b) := fun _ _ => rfl
theorem Laws.EncodedShape.seg0 (b : Byte) : Laws.EncodedShape.Statement (.seg0 b) := fun _ _ => rfl
theorem Laws.EncodedShape.seg1 (b : Byte) : Laws.EncodedShape.Statement (.seg1 b) := fun _ _ => rfl
theorem Laws.EncodedShape.seg2 (b : Byte) : Laws.EncodedShape.Statement (.seg2 b) := fun _ _ => rfl
theorem Laws.EncodedShape.seg3 (b : Byte) : Laws.EncodedShape.Statement (.seg3 b) := fun _ _ => rfl
theorem Laws.EncodedShape.seg4 (b : Byte) : Laws.EncodedShape.Statement (.seg4 b) := fun _ _ => rfl
theorem Laws.EncodedShape.seg5 (b : Byte) : Laws.EncodedShape.Statement (.seg5 b) := fun _ _ => rfl
theorem Laws.EncodedShape.seg6 (b : Byte) : Laws.EncodedShape.Statement (.seg6 b) := fun _ _ => rfl
theorem Laws.EncodedShape.seg7 (b : Byte) : Laws.EncodedShape.Statement (.seg7 b) := fun _ _ => rfl
theorem Laws.EncodedShape.seg8 (b : Byte) : Laws.EncodedShape.Statement (.seg8 b) := fun _ _ => rfl
theorem Laws.EncodedShape.seg9 (b : Byte) : Laws.EncodedShape.Statement (.seg9 b) := fun _ _ => rfl
theorem Laws.EncodedShape.segCapA (b : Byte) : Laws.EncodedShape.Statement (.segCapA b) := fun _ _ => rfl
theorem Laws.EncodedShape.segCapC (b : Byte) : Laws.EncodedShape.Statement (.segCapC b) := fun _ _ => rfl
theorem Laws.EncodedShape.segCapE (b : Byte) : Laws.EncodedShape.Statement (.segCapE b) := fun _ _ => rfl
theorem Laws.EncodedShape.segCapH (b : Byte) : Laws.EncodedShape.Statement (.segCapH b) := fun _ _ => rfl
theorem Laws.EncodedShape.segCapL (b : Byte) : Laws.EncodedShape.Statement (.segCapL b) := fun _ _ => rfl
theorem Laws.EncodedShape.segLowC (b : Byte) : Laws.EncodedShape.Statement (.segLowC b) := fun _ _ => rfl
theorem Laws.EncodedShape.segLowN (b : Byte) : Laws.EncodedShape.Statement (.segLowN b) := fun _ _ => rfl
theorem Laws.EncodedShape.segLowO (b : Byte) : Laws.EncodedShape.Statement (.segLowO b) := fun _ _ => rfl
theorem Laws.EncodedShape.segLowR (b : Byte) : Laws.EncodedShape.Statement (.segLowR b) := fun _ _ => rfl
theorem Laws.EncodedShape.segLowT (b : Byte) : Laws.EncodedShape.Statement (.segLowT b) := fun _ _ => rfl
theorem Laws.EncodedShape.segLowU (b : Byte) : Laws.EncodedShape.Statement (.segLowU b) := fun _ _ => rfl
theorem Laws.EncodedShape.segEq (b : Byte) : Laws.EncodedShape.Statement (.segEq b) := fun _ _ => rfl
theorem Laws.EncodedShape.segUnknown (b : Byte) : Laws.EncodedShape.Statement (.segUnknown b) := fun _ _ => rfl
theorem Laws.EncodedShape.flagAuto (ms : Byte) : Laws.EncodedShape.Statement (.flagAuto ms) := fun _ _ => rfl
theorem Laws.EncodedShape.flagRel (ms : Byte) : Laws.EncodedShape.Statement (.flagRel ms) := fun _ _ => rfl
theorem Laws.EncodedShape.flagBat (ms : Byte) : Laws.EncodedShape.Statement (.flagBat ms) := fun _ _ => rfl
theorem Laws.EncodedShape.flagAc (ms : Byte) : Laws.EncodedShape.Statement (.flagAc ms) := fun _ _ => rfl
theorem Laws.EncodedShape.flagDb (ms : Byte) : Laws.EncodedShape.Statement (.flagDb ms) := fun _ _ => rfl
theorem Laws.EncodedShape.flagSto (ms : Byte) : Laws.EncodedShape.Statement (.flagSto ms) := fun _ _ => rfl
theorem Laws.EncodedShape.flagRcl (ms : Byte) : Laws.EncodedShape.Statement (.flagRcl ms) := fun _ _ => rfl
theorem Laws.EncodedShape.flagNeg (ms : Byte) : Laws.EncodedShape.Statement (.flagNeg ms) := fun _ _ => rfl
theorem Laws.EncodedShape.flagCal (pkt : Packet) : Laws.EncodedShape.Statement (.flagCal pkt) := fun _ _ => by simp [encode, takesBytes]
theorem Laws.EncodedShape.us2MergeField (us2 : Byte) : Laws.EncodedShape.Statement (.us2MergeField us2) := fun _ _ => rfl
theorem Laws.EncodedShape.unitKiloohm (merged : Byte) (ac rsel : Bit) : Laws.EncodedShape.Statement (.unitKiloohm merged ac rsel) := fun _ _ => rfl
theorem Laws.EncodedShape.unitMegaohm (merged : Byte) (ac rsel : Bit) : Laws.EncodedShape.Statement (.unitMegaohm merged ac rsel) := fun _ _ => rfl
theorem Laws.EncodedShape.unitOhm (merged : Byte) (ac rsel : Bit) : Laws.EncodedShape.Statement (.unitOhm merged ac rsel) := fun _ _ => rfl
theorem Laws.EncodedShape.unitMicroamp (merged : Byte) (ac rsel : Bit) : Laws.EncodedShape.Statement (.unitMicroamp merged ac rsel) := fun _ _ => rfl
theorem Laws.EncodedShape.unitMilliamp (merged : Byte) (ac rsel : Bit) : Laws.EncodedShape.Statement (.unitMilliamp merged ac rsel) := fun _ _ => rfl
theorem Laws.EncodedShape.unitAmp (merged : Byte) (ac rsel : Bit) : Laws.EncodedShape.Statement (.unitAmp merged ac rsel) := fun _ _ => rfl
theorem Laws.EncodedShape.unitMillivolt (merged : Byte) (ac rsel : Bit) : Laws.EncodedShape.Statement (.unitMillivolt merged ac rsel) := fun _ _ => rfl
theorem Laws.EncodedShape.unitVolt (merged : Byte) (ac rsel : Bit) : Laws.EncodedShape.Statement (.unitVolt merged ac rsel) := fun _ _ => rfl
theorem Laws.EncodedShape.unitNone (merged : Byte) (ac rsel : Bit) : Laws.EncodedShape.Statement (.unitNone merged ac rsel) := fun _ _ => rfl

end Sys2Proof
end

