-- ==== Sys2Proof/Laws/State.lean ====
section
/-! SUPPORT. One lemma per field per update of State: a later proof reads a field through an update without unfolding it. -/

namespace Sys2Proof.Machine

variable (s : State)

@[simp] theorem State.setFields_cfg (v1 : Byte) (v2 : Vector Byte 6) (v3 : Byte) (v4 : Byte) : (s.setFields v1 v2 v3 v4).cfg = s.cfg := rfl
@[simp] theorem State.setFields_mem (v1 : Byte) (v2 : Vector Byte 6) (v3 : Byte) (v4 : Byte) : (s.setFields v1 v2 v3 v4).mem = s.mem := rfl
@[simp] theorem State.setFields_rsel (v1 : Byte) (v2 : Vector Byte 6) (v3 : Byte) (v4 : Byte) : (s.setFields v1 v2 v3 v4).rsel = s.rsel := rfl
@[simp] theorem State.setFields_request (v1 : Byte) (v2 : Vector Byte 6) (v3 : Byte) (v4 : Byte) : (s.setFields v1 v2 v3 v4).request = s.request := rfl
@[simp] theorem State.setFields_ms (v1 : Byte) (v2 : Vector Byte 6) (v3 : Byte) (v4 : Byte) : (s.setFields v1 v2 v3 v4).ms = v1 := rfl
@[simp] theorem State.setFields_d (v1 : Byte) (v2 : Vector Byte 6) (v3 : Byte) (v4 : Byte) : (s.setFields v1 v2 v3 v4).d = v2 := rfl
@[simp] theorem State.setFields_us1 (v1 : Byte) (v2 : Vector Byte 6) (v3 : Byte) (v4 : Byte) : (s.setFields v1 v2 v3 v4).us1 = v3 := rfl
@[simp] theorem State.setFields_us2 (v1 : Byte) (v2 : Vector Byte 6) (v3 : Byte) (v4 : Byte) : (s.setFields v1 v2 v3 v4).us2 = v4 := rfl
@[simp] theorem State.setFields_flags (v1 : Byte) (v2 : Vector Byte 6) (v3 : Byte) (v4 : Byte) : (s.setFields v1 v2 v3 v4).flags = s.flags := rfl
@[simp] theorem State.setFields_cal (v1 : Byte) (v2 : Vector Byte 6) (v3 : Byte) (v4 : Byte) : (s.setFields v1 v2 v3 v4).cal = s.cal := rfl
@[simp] theorem State.setFields_xdp (v1 : Byte) (v2 : Vector Byte 6) (v3 : Byte) (v4 : Byte) : (s.setFields v1 v2 v3 v4).xdp = s.xdp := rfl
@[simp] theorem State.setFields_xseg (v1 : Byte) (v2 : Vector Byte 6) (v3 : Byte) (v4 : Byte) : (s.setFields v1 v2 v3 v4).xseg = s.xseg := rfl
@[simp] theorem State.setFields_modeStr (v1 : Byte) (v2 : Vector Byte 6) (v3 : Byte) (v4 : Byte) : (s.setFields v1 v2 v3 v4).modeStr = s.modeStr := rfl
@[simp] theorem State.setFields_mergeField (v1 : Byte) (v2 : Vector Byte 6) (v3 : Byte) (v4 : Byte) : (s.setFields v1 v2 v3 v4).mergeField = s.mergeField := rfl
@[simp] theorem State.setFields_merged (v1 : Byte) (v2 : Vector Byte 6) (v3 : Byte) (v4 : Byte) : (s.setFields v1 v2 v3 v4).merged = s.merged := rfl
@[simp] theorem State.setFields_unitStr (v1 : Byte) (v2 : Vector Byte 6) (v3 : Byte) (v4 : Byte) : (s.setFields v1 v2 v3 v4).unitStr = s.unitStr := rfl
@[simp] theorem State.setFields_segChar (v1 : Byte) (v2 : Vector Byte 6) (v3 : Byte) (v4 : Byte) : (s.setFields v1 v2 v3 v4).segChar = s.segChar := rfl
@[simp] theorem State.setFields_signChar (v1 : Byte) (v2 : Vector Byte 6) (v3 : Byte) (v4 : Byte) : (s.setFields v1 v2 v3 v4).signChar = s.signChar := rfl
@[simp] theorem State.setFields_dp (v1 : Byte) (v2 : Vector Byte 6) (v3 : Byte) (v4 : Byte) : (s.setFields v1 v2 v3 v4).dp = s.dp := rfl
@[simp] theorem State.setFields_key (v1 : Byte) (v2 : Vector Byte 6) (v3 : Byte) (v4 : Byte) : (s.setFields v1 v2 v3 v4).key = s.key := rfl
@[simp] theorem State.setFields_dpFound (v1 : Byte) (v2 : Vector Byte 6) (v3 : Byte) (v4 : Byte) : (s.setFields v1 v2 v3 v4).dpFound = s.dpFound := rfl
@[simp] theorem State.setFields_digitStr (v1 : Byte) (v2 : Vector Byte 6) (v3 : Byte) (v4 : Byte) : (s.setFields v1 v2 v3 v4).digitStr = s.digitStr := rfl
@[simp] theorem State.setFields_reading (v1 : Byte) (v2 : Vector Byte 6) (v3 : Byte) (v4 : Byte) : (s.setFields v1 v2 v3 v4).reading = s.reading := rfl
@[simp] theorem State.setFields_stripped (v1 : Byte) (v2 : Vector Byte 6) (v3 : Byte) (v4 : Byte) : (s.setFields v1 v2 v3 v4).stripped = s.stripped := rfl

@[simp] theorem State.setFlags_cfg (v1 : ModeFlags) : (s.setFlags v1).cfg = s.cfg := rfl
@[simp] theorem State.setFlags_mem (v1 : ModeFlags) : (s.setFlags v1).mem = s.mem := rfl
@[simp] theorem State.setFlags_rsel (v1 : ModeFlags) : (s.setFlags v1).rsel = s.rsel := rfl
@[simp] theorem State.setFlags_request (v1 : ModeFlags) : (s.setFlags v1).request = s.request := rfl
@[simp] theorem State.setFlags_ms (v1 : ModeFlags) : (s.setFlags v1).ms = s.ms := rfl
@[simp] theorem State.setFlags_d (v1 : ModeFlags) : (s.setFlags v1).d = s.d := rfl
@[simp] theorem State.setFlags_us1 (v1 : ModeFlags) : (s.setFlags v1).us1 = s.us1 := rfl
@[simp] theorem State.setFlags_us2 (v1 : ModeFlags) : (s.setFlags v1).us2 = s.us2 := rfl
@[simp] theorem State.setFlags_flags (v1 : ModeFlags) : (s.setFlags v1).flags = v1 := rfl
@[simp] theorem State.setFlags_cal (v1 : ModeFlags) : (s.setFlags v1).cal = s.cal := rfl
@[simp] theorem State.setFlags_xdp (v1 : ModeFlags) : (s.setFlags v1).xdp = s.xdp := rfl
@[simp] theorem State.setFlags_xseg (v1 : ModeFlags) : (s.setFlags v1).xseg = s.xseg := rfl
@[simp] theorem State.setFlags_modeStr (v1 : ModeFlags) : (s.setFlags v1).modeStr = s.modeStr := rfl
@[simp] theorem State.setFlags_mergeField (v1 : ModeFlags) : (s.setFlags v1).mergeField = s.mergeField := rfl
@[simp] theorem State.setFlags_merged (v1 : ModeFlags) : (s.setFlags v1).merged = s.merged := rfl
@[simp] theorem State.setFlags_unitStr (v1 : ModeFlags) : (s.setFlags v1).unitStr = s.unitStr := rfl
@[simp] theorem State.setFlags_segChar (v1 : ModeFlags) : (s.setFlags v1).segChar = s.segChar := rfl
@[simp] theorem State.setFlags_signChar (v1 : ModeFlags) : (s.setFlags v1).signChar = s.signChar := rfl
@[simp] theorem State.setFlags_dp (v1 : ModeFlags) : (s.setFlags v1).dp = s.dp := rfl
@[simp] theorem State.setFlags_key (v1 : ModeFlags) : (s.setFlags v1).key = s.key := rfl
@[simp] theorem State.setFlags_dpFound (v1 : ModeFlags) : (s.setFlags v1).dpFound = s.dpFound := rfl
@[simp] theorem State.setFlags_digitStr (v1 : ModeFlags) : (s.setFlags v1).digitStr = s.digitStr := rfl
@[simp] theorem State.setFlags_reading (v1 : ModeFlags) : (s.setFlags v1).reading = s.reading := rfl
@[simp] theorem State.setFlags_stripped (v1 : ModeFlags) : (s.setFlags v1).stripped = s.stripped := rfl

@[simp] theorem State.setCal_cfg (v1 : Bit) : (s.setCal v1).cfg = s.cfg := rfl
@[simp] theorem State.setCal_mem (v1 : Bit) : (s.setCal v1).mem = s.mem := rfl
@[simp] theorem State.setCal_rsel (v1 : Bit) : (s.setCal v1).rsel = s.rsel := rfl
@[simp] theorem State.setCal_request (v1 : Bit) : (s.setCal v1).request = s.request := rfl
@[simp] theorem State.setCal_ms (v1 : Bit) : (s.setCal v1).ms = s.ms := rfl
@[simp] theorem State.setCal_d (v1 : Bit) : (s.setCal v1).d = s.d := rfl
@[simp] theorem State.setCal_us1 (v1 : Bit) : (s.setCal v1).us1 = s.us1 := rfl
@[simp] theorem State.setCal_us2 (v1 : Bit) : (s.setCal v1).us2 = s.us2 := rfl
@[simp] theorem State.setCal_flags (v1 : Bit) : (s.setCal v1).flags = s.flags := rfl
@[simp] theorem State.setCal_cal (v1 : Bit) : (s.setCal v1).cal = v1 := rfl
@[simp] theorem State.setCal_xdp (v1 : Bit) : (s.setCal v1).xdp = s.xdp := rfl
@[simp] theorem State.setCal_xseg (v1 : Bit) : (s.setCal v1).xseg = s.xseg := rfl
@[simp] theorem State.setCal_modeStr (v1 : Bit) : (s.setCal v1).modeStr = s.modeStr := rfl
@[simp] theorem State.setCal_mergeField (v1 : Bit) : (s.setCal v1).mergeField = s.mergeField := rfl
@[simp] theorem State.setCal_merged (v1 : Bit) : (s.setCal v1).merged = s.merged := rfl
@[simp] theorem State.setCal_unitStr (v1 : Bit) : (s.setCal v1).unitStr = s.unitStr := rfl
@[simp] theorem State.setCal_segChar (v1 : Bit) : (s.setCal v1).segChar = s.segChar := rfl
@[simp] theorem State.setCal_signChar (v1 : Bit) : (s.setCal v1).signChar = s.signChar := rfl
@[simp] theorem State.setCal_dp (v1 : Bit) : (s.setCal v1).dp = s.dp := rfl
@[simp] theorem State.setCal_key (v1 : Bit) : (s.setCal v1).key = s.key := rfl
@[simp] theorem State.setCal_dpFound (v1 : Bit) : (s.setCal v1).dpFound = s.dpFound := rfl
@[simp] theorem State.setCal_digitStr (v1 : Bit) : (s.setCal v1).digitStr = s.digitStr := rfl
@[simp] theorem State.setCal_reading (v1 : Bit) : (s.setCal v1).reading = s.reading := rfl
@[simp] theorem State.setCal_stripped (v1 : Bit) : (s.setCal v1).stripped = s.stripped := rfl

@[simp] theorem State.setXdp_cfg (v1 : Bit) : (s.setXdp v1).cfg = s.cfg := rfl
@[simp] theorem State.setXdp_mem (v1 : Bit) : (s.setXdp v1).mem = s.mem := rfl
@[simp] theorem State.setXdp_rsel (v1 : Bit) : (s.setXdp v1).rsel = s.rsel := rfl
@[simp] theorem State.setXdp_request (v1 : Bit) : (s.setXdp v1).request = s.request := rfl
@[simp] theorem State.setXdp_ms (v1 : Bit) : (s.setXdp v1).ms = s.ms := rfl
@[simp] theorem State.setXdp_d (v1 : Bit) : (s.setXdp v1).d = s.d := rfl
@[simp] theorem State.setXdp_us1 (v1 : Bit) : (s.setXdp v1).us1 = s.us1 := rfl
@[simp] theorem State.setXdp_us2 (v1 : Bit) : (s.setXdp v1).us2 = s.us2 := rfl
@[simp] theorem State.setXdp_flags (v1 : Bit) : (s.setXdp v1).flags = s.flags := rfl
@[simp] theorem State.setXdp_cal (v1 : Bit) : (s.setXdp v1).cal = s.cal := rfl
@[simp] theorem State.setXdp_xdp (v1 : Bit) : (s.setXdp v1).xdp = v1 := rfl
@[simp] theorem State.setXdp_xseg (v1 : Bit) : (s.setXdp v1).xseg = s.xseg := rfl
@[simp] theorem State.setXdp_modeStr (v1 : Bit) : (s.setXdp v1).modeStr = s.modeStr := rfl
@[simp] theorem State.setXdp_mergeField (v1 : Bit) : (s.setXdp v1).mergeField = s.mergeField := rfl
@[simp] theorem State.setXdp_merged (v1 : Bit) : (s.setXdp v1).merged = s.merged := rfl
@[simp] theorem State.setXdp_unitStr (v1 : Bit) : (s.setXdp v1).unitStr = s.unitStr := rfl
@[simp] theorem State.setXdp_segChar (v1 : Bit) : (s.setXdp v1).segChar = s.segChar := rfl
@[simp] theorem State.setXdp_signChar (v1 : Bit) : (s.setXdp v1).signChar = s.signChar := rfl
@[simp] theorem State.setXdp_dp (v1 : Bit) : (s.setXdp v1).dp = s.dp := rfl
@[simp] theorem State.setXdp_key (v1 : Bit) : (s.setXdp v1).key = s.key := rfl
@[simp] theorem State.setXdp_dpFound (v1 : Bit) : (s.setXdp v1).dpFound = s.dpFound := rfl
@[simp] theorem State.setXdp_digitStr (v1 : Bit) : (s.setXdp v1).digitStr = s.digitStr := rfl
@[simp] theorem State.setXdp_reading (v1 : Bit) : (s.setXdp v1).reading = s.reading := rfl
@[simp] theorem State.setXdp_stripped (v1 : Bit) : (s.setXdp v1).stripped = s.stripped := rfl

@[simp] theorem State.setXseg_cfg (v1 : Byte) : (s.setXseg v1).cfg = s.cfg := rfl
@[simp] theorem State.setXseg_mem (v1 : Byte) : (s.setXseg v1).mem = s.mem := rfl
@[simp] theorem State.setXseg_rsel (v1 : Byte) : (s.setXseg v1).rsel = s.rsel := rfl
@[simp] theorem State.setXseg_request (v1 : Byte) : (s.setXseg v1).request = s.request := rfl
@[simp] theorem State.setXseg_ms (v1 : Byte) : (s.setXseg v1).ms = s.ms := rfl
@[simp] theorem State.setXseg_d (v1 : Byte) : (s.setXseg v1).d = s.d := rfl
@[simp] theorem State.setXseg_us1 (v1 : Byte) : (s.setXseg v1).us1 = s.us1 := rfl
@[simp] theorem State.setXseg_us2 (v1 : Byte) : (s.setXseg v1).us2 = s.us2 := rfl
@[simp] theorem State.setXseg_flags (v1 : Byte) : (s.setXseg v1).flags = s.flags := rfl
@[simp] theorem State.setXseg_cal (v1 : Byte) : (s.setXseg v1).cal = s.cal := rfl
@[simp] theorem State.setXseg_xdp (v1 : Byte) : (s.setXseg v1).xdp = s.xdp := rfl
@[simp] theorem State.setXseg_xseg (v1 : Byte) : (s.setXseg v1).xseg = v1 := rfl
@[simp] theorem State.setXseg_modeStr (v1 : Byte) : (s.setXseg v1).modeStr = s.modeStr := rfl
@[simp] theorem State.setXseg_mergeField (v1 : Byte) : (s.setXseg v1).mergeField = s.mergeField := rfl
@[simp] theorem State.setXseg_merged (v1 : Byte) : (s.setXseg v1).merged = s.merged := rfl
@[simp] theorem State.setXseg_unitStr (v1 : Byte) : (s.setXseg v1).unitStr = s.unitStr := rfl
@[simp] theorem State.setXseg_segChar (v1 : Byte) : (s.setXseg v1).segChar = s.segChar := rfl
@[simp] theorem State.setXseg_signChar (v1 : Byte) : (s.setXseg v1).signChar = s.signChar := rfl
@[simp] theorem State.setXseg_dp (v1 : Byte) : (s.setXseg v1).dp = s.dp := rfl
@[simp] theorem State.setXseg_key (v1 : Byte) : (s.setXseg v1).key = s.key := rfl
@[simp] theorem State.setXseg_dpFound (v1 : Byte) : (s.setXseg v1).dpFound = s.dpFound := rfl
@[simp] theorem State.setXseg_digitStr (v1 : Byte) : (s.setXseg v1).digitStr = s.digitStr := rfl
@[simp] theorem State.setXseg_reading (v1 : Byte) : (s.setXseg v1).reading = s.reading := rfl
@[simp] theorem State.setXseg_stripped (v1 : Byte) : (s.setXseg v1).stripped = s.stripped := rfl

@[simp] theorem State.setModeStr_cfg (v1 : List Cell) : (s.setModeStr v1).cfg = s.cfg := rfl
@[simp] theorem State.setModeStr_mem (v1 : List Cell) : (s.setModeStr v1).mem = s.mem := rfl
@[simp] theorem State.setModeStr_rsel (v1 : List Cell) : (s.setModeStr v1).rsel = s.rsel := rfl
@[simp] theorem State.setModeStr_request (v1 : List Cell) : (s.setModeStr v1).request = s.request := rfl
@[simp] theorem State.setModeStr_ms (v1 : List Cell) : (s.setModeStr v1).ms = s.ms := rfl
@[simp] theorem State.setModeStr_d (v1 : List Cell) : (s.setModeStr v1).d = s.d := rfl
@[simp] theorem State.setModeStr_us1 (v1 : List Cell) : (s.setModeStr v1).us1 = s.us1 := rfl
@[simp] theorem State.setModeStr_us2 (v1 : List Cell) : (s.setModeStr v1).us2 = s.us2 := rfl
@[simp] theorem State.setModeStr_flags (v1 : List Cell) : (s.setModeStr v1).flags = s.flags := rfl
@[simp] theorem State.setModeStr_cal (v1 : List Cell) : (s.setModeStr v1).cal = s.cal := rfl
@[simp] theorem State.setModeStr_xdp (v1 : List Cell) : (s.setModeStr v1).xdp = s.xdp := rfl
@[simp] theorem State.setModeStr_xseg (v1 : List Cell) : (s.setModeStr v1).xseg = s.xseg := rfl
@[simp] theorem State.setModeStr_modeStr (v1 : List Cell) : (s.setModeStr v1).modeStr = v1 := rfl
@[simp] theorem State.setModeStr_mergeField (v1 : List Cell) : (s.setModeStr v1).mergeField = s.mergeField := rfl
@[simp] theorem State.setModeStr_merged (v1 : List Cell) : (s.setModeStr v1).merged = s.merged := rfl
@[simp] theorem State.setModeStr_unitStr (v1 : List Cell) : (s.setModeStr v1).unitStr = s.unitStr := rfl
@[simp] theorem State.setModeStr_segChar (v1 : List Cell) : (s.setModeStr v1).segChar = s.segChar := rfl
@[simp] theorem State.setModeStr_signChar (v1 : List Cell) : (s.setModeStr v1).signChar = s.signChar := rfl
@[simp] theorem State.setModeStr_dp (v1 : List Cell) : (s.setModeStr v1).dp = s.dp := rfl
@[simp] theorem State.setModeStr_key (v1 : List Cell) : (s.setModeStr v1).key = s.key := rfl
@[simp] theorem State.setModeStr_dpFound (v1 : List Cell) : (s.setModeStr v1).dpFound = s.dpFound := rfl
@[simp] theorem State.setModeStr_digitStr (v1 : List Cell) : (s.setModeStr v1).digitStr = s.digitStr := rfl
@[simp] theorem State.setModeStr_reading (v1 : List Cell) : (s.setModeStr v1).reading = s.reading := rfl
@[simp] theorem State.setModeStr_stripped (v1 : List Cell) : (s.setModeStr v1).stripped = s.stripped := rfl

@[simp] theorem State.setMergeField_cfg (v1 : Byte) : (s.setMergeField v1).cfg = s.cfg := rfl
@[simp] theorem State.setMergeField_mem (v1 : Byte) : (s.setMergeField v1).mem = s.mem := rfl
@[simp] theorem State.setMergeField_rsel (v1 : Byte) : (s.setMergeField v1).rsel = s.rsel := rfl
@[simp] theorem State.setMergeField_request (v1 : Byte) : (s.setMergeField v1).request = s.request := rfl
@[simp] theorem State.setMergeField_ms (v1 : Byte) : (s.setMergeField v1).ms = s.ms := rfl
@[simp] theorem State.setMergeField_d (v1 : Byte) : (s.setMergeField v1).d = s.d := rfl
@[simp] theorem State.setMergeField_us1 (v1 : Byte) : (s.setMergeField v1).us1 = s.us1 := rfl
@[simp] theorem State.setMergeField_us2 (v1 : Byte) : (s.setMergeField v1).us2 = s.us2 := rfl
@[simp] theorem State.setMergeField_flags (v1 : Byte) : (s.setMergeField v1).flags = s.flags := rfl
@[simp] theorem State.setMergeField_cal (v1 : Byte) : (s.setMergeField v1).cal = s.cal := rfl
@[simp] theorem State.setMergeField_xdp (v1 : Byte) : (s.setMergeField v1).xdp = s.xdp := rfl
@[simp] theorem State.setMergeField_xseg (v1 : Byte) : (s.setMergeField v1).xseg = s.xseg := rfl
@[simp] theorem State.setMergeField_modeStr (v1 : Byte) : (s.setMergeField v1).modeStr = s.modeStr := rfl
@[simp] theorem State.setMergeField_mergeField (v1 : Byte) : (s.setMergeField v1).mergeField = v1 := rfl
@[simp] theorem State.setMergeField_merged (v1 : Byte) : (s.setMergeField v1).merged = s.merged := rfl
@[simp] theorem State.setMergeField_unitStr (v1 : Byte) : (s.setMergeField v1).unitStr = s.unitStr := rfl
@[simp] theorem State.setMergeField_segChar (v1 : Byte) : (s.setMergeField v1).segChar = s.segChar := rfl
@[simp] theorem State.setMergeField_signChar (v1 : Byte) : (s.setMergeField v1).signChar = s.signChar := rfl
@[simp] theorem State.setMergeField_dp (v1 : Byte) : (s.setMergeField v1).dp = s.dp := rfl
@[simp] theorem State.setMergeField_key (v1 : Byte) : (s.setMergeField v1).key = s.key := rfl
@[simp] theorem State.setMergeField_dpFound (v1 : Byte) : (s.setMergeField v1).dpFound = s.dpFound := rfl
@[simp] theorem State.setMergeField_digitStr (v1 : Byte) : (s.setMergeField v1).digitStr = s.digitStr := rfl
@[simp] theorem State.setMergeField_reading (v1 : Byte) : (s.setMergeField v1).reading = s.reading := rfl
@[simp] theorem State.setMergeField_stripped (v1 : Byte) : (s.setMergeField v1).stripped = s.stripped := rfl

@[simp] theorem State.setMerged_cfg (v1 : Byte) : (s.setMerged v1).cfg = s.cfg := rfl
@[simp] theorem State.setMerged_mem (v1 : Byte) : (s.setMerged v1).mem = s.mem := rfl
@[simp] theorem State.setMerged_rsel (v1 : Byte) : (s.setMerged v1).rsel = s.rsel := rfl
@[simp] theorem State.setMerged_request (v1 : Byte) : (s.setMerged v1).request = s.request := rfl
@[simp] theorem State.setMerged_ms (v1 : Byte) : (s.setMerged v1).ms = s.ms := rfl
@[simp] theorem State.setMerged_d (v1 : Byte) : (s.setMerged v1).d = s.d := rfl
@[simp] theorem State.setMerged_us1 (v1 : Byte) : (s.setMerged v1).us1 = s.us1 := rfl
@[simp] theorem State.setMerged_us2 (v1 : Byte) : (s.setMerged v1).us2 = s.us2 := rfl
@[simp] theorem State.setMerged_flags (v1 : Byte) : (s.setMerged v1).flags = s.flags := rfl
@[simp] theorem State.setMerged_cal (v1 : Byte) : (s.setMerged v1).cal = s.cal := rfl
@[simp] theorem State.setMerged_xdp (v1 : Byte) : (s.setMerged v1).xdp = s.xdp := rfl
@[simp] theorem State.setMerged_xseg (v1 : Byte) : (s.setMerged v1).xseg = s.xseg := rfl
@[simp] theorem State.setMerged_modeStr (v1 : Byte) : (s.setMerged v1).modeStr = s.modeStr := rfl
@[simp] theorem State.setMerged_mergeField (v1 : Byte) : (s.setMerged v1).mergeField = s.mergeField := rfl
@[simp] theorem State.setMerged_merged (v1 : Byte) : (s.setMerged v1).merged = v1 := rfl
@[simp] theorem State.setMerged_unitStr (v1 : Byte) : (s.setMerged v1).unitStr = s.unitStr := rfl
@[simp] theorem State.setMerged_segChar (v1 : Byte) : (s.setMerged v1).segChar = s.segChar := rfl
@[simp] theorem State.setMerged_signChar (v1 : Byte) : (s.setMerged v1).signChar = s.signChar := rfl
@[simp] theorem State.setMerged_dp (v1 : Byte) : (s.setMerged v1).dp = s.dp := rfl
@[simp] theorem State.setMerged_key (v1 : Byte) : (s.setMerged v1).key = s.key := rfl
@[simp] theorem State.setMerged_dpFound (v1 : Byte) : (s.setMerged v1).dpFound = s.dpFound := rfl
@[simp] theorem State.setMerged_digitStr (v1 : Byte) : (s.setMerged v1).digitStr = s.digitStr := rfl
@[simp] theorem State.setMerged_reading (v1 : Byte) : (s.setMerged v1).reading = s.reading := rfl
@[simp] theorem State.setMerged_stripped (v1 : Byte) : (s.setMerged v1).stripped = s.stripped := rfl

@[simp] theorem State.setUnitStr_cfg (v1 : List Cell) : (s.setUnitStr v1).cfg = s.cfg := rfl
@[simp] theorem State.setUnitStr_mem (v1 : List Cell) : (s.setUnitStr v1).mem = s.mem := rfl
@[simp] theorem State.setUnitStr_rsel (v1 : List Cell) : (s.setUnitStr v1).rsel = s.rsel := rfl
@[simp] theorem State.setUnitStr_request (v1 : List Cell) : (s.setUnitStr v1).request = s.request := rfl
@[simp] theorem State.setUnitStr_ms (v1 : List Cell) : (s.setUnitStr v1).ms = s.ms := rfl
@[simp] theorem State.setUnitStr_d (v1 : List Cell) : (s.setUnitStr v1).d = s.d := rfl
@[simp] theorem State.setUnitStr_us1 (v1 : List Cell) : (s.setUnitStr v1).us1 = s.us1 := rfl
@[simp] theorem State.setUnitStr_us2 (v1 : List Cell) : (s.setUnitStr v1).us2 = s.us2 := rfl
@[simp] theorem State.setUnitStr_flags (v1 : List Cell) : (s.setUnitStr v1).flags = s.flags := rfl
@[simp] theorem State.setUnitStr_cal (v1 : List Cell) : (s.setUnitStr v1).cal = s.cal := rfl
@[simp] theorem State.setUnitStr_xdp (v1 : List Cell) : (s.setUnitStr v1).xdp = s.xdp := rfl
@[simp] theorem State.setUnitStr_xseg (v1 : List Cell) : (s.setUnitStr v1).xseg = s.xseg := rfl
@[simp] theorem State.setUnitStr_modeStr (v1 : List Cell) : (s.setUnitStr v1).modeStr = s.modeStr := rfl
@[simp] theorem State.setUnitStr_mergeField (v1 : List Cell) : (s.setUnitStr v1).mergeField = s.mergeField := rfl
@[simp] theorem State.setUnitStr_merged (v1 : List Cell) : (s.setUnitStr v1).merged = s.merged := rfl
@[simp] theorem State.setUnitStr_unitStr (v1 : List Cell) : (s.setUnitStr v1).unitStr = v1 := rfl
@[simp] theorem State.setUnitStr_segChar (v1 : List Cell) : (s.setUnitStr v1).segChar = s.segChar := rfl
@[simp] theorem State.setUnitStr_signChar (v1 : List Cell) : (s.setUnitStr v1).signChar = s.signChar := rfl
@[simp] theorem State.setUnitStr_dp (v1 : List Cell) : (s.setUnitStr v1).dp = s.dp := rfl
@[simp] theorem State.setUnitStr_key (v1 : List Cell) : (s.setUnitStr v1).key = s.key := rfl
@[simp] theorem State.setUnitStr_dpFound (v1 : List Cell) : (s.setUnitStr v1).dpFound = s.dpFound := rfl
@[simp] theorem State.setUnitStr_digitStr (v1 : List Cell) : (s.setUnitStr v1).digitStr = s.digitStr := rfl
@[simp] theorem State.setUnitStr_reading (v1 : List Cell) : (s.setUnitStr v1).reading = s.reading := rfl
@[simp] theorem State.setUnitStr_stripped (v1 : List Cell) : (s.setUnitStr v1).stripped = s.stripped := rfl

@[simp] theorem State.setSegChar_cfg (v1 : Cell) : (s.setSegChar v1).cfg = s.cfg := rfl
@[simp] theorem State.setSegChar_mem (v1 : Cell) : (s.setSegChar v1).mem = s.mem := rfl
@[simp] theorem State.setSegChar_rsel (v1 : Cell) : (s.setSegChar v1).rsel = s.rsel := rfl
@[simp] theorem State.setSegChar_request (v1 : Cell) : (s.setSegChar v1).request = s.request := rfl
@[simp] theorem State.setSegChar_ms (v1 : Cell) : (s.setSegChar v1).ms = s.ms := rfl
@[simp] theorem State.setSegChar_d (v1 : Cell) : (s.setSegChar v1).d = s.d := rfl
@[simp] theorem State.setSegChar_us1 (v1 : Cell) : (s.setSegChar v1).us1 = s.us1 := rfl
@[simp] theorem State.setSegChar_us2 (v1 : Cell) : (s.setSegChar v1).us2 = s.us2 := rfl
@[simp] theorem State.setSegChar_flags (v1 : Cell) : (s.setSegChar v1).flags = s.flags := rfl
@[simp] theorem State.setSegChar_cal (v1 : Cell) : (s.setSegChar v1).cal = s.cal := rfl
@[simp] theorem State.setSegChar_xdp (v1 : Cell) : (s.setSegChar v1).xdp = s.xdp := rfl
@[simp] theorem State.setSegChar_xseg (v1 : Cell) : (s.setSegChar v1).xseg = s.xseg := rfl
@[simp] theorem State.setSegChar_modeStr (v1 : Cell) : (s.setSegChar v1).modeStr = s.modeStr := rfl
@[simp] theorem State.setSegChar_mergeField (v1 : Cell) : (s.setSegChar v1).mergeField = s.mergeField := rfl
@[simp] theorem State.setSegChar_merged (v1 : Cell) : (s.setSegChar v1).merged = s.merged := rfl
@[simp] theorem State.setSegChar_unitStr (v1 : Cell) : (s.setSegChar v1).unitStr = s.unitStr := rfl
@[simp] theorem State.setSegChar_segChar (v1 : Cell) : (s.setSegChar v1).segChar = v1 := rfl
@[simp] theorem State.setSegChar_signChar (v1 : Cell) : (s.setSegChar v1).signChar = s.signChar := rfl
@[simp] theorem State.setSegChar_dp (v1 : Cell) : (s.setSegChar v1).dp = s.dp := rfl
@[simp] theorem State.setSegChar_key (v1 : Cell) : (s.setSegChar v1).key = s.key := rfl
@[simp] theorem State.setSegChar_dpFound (v1 : Cell) : (s.setSegChar v1).dpFound = s.dpFound := rfl
@[simp] theorem State.setSegChar_digitStr (v1 : Cell) : (s.setSegChar v1).digitStr = s.digitStr := rfl
@[simp] theorem State.setSegChar_reading (v1 : Cell) : (s.setSegChar v1).reading = s.reading := rfl
@[simp] theorem State.setSegChar_stripped (v1 : Cell) : (s.setSegChar v1).stripped = s.stripped := rfl

@[simp] theorem State.setSignChar_cfg (v1 : Cell) : (s.setSignChar v1).cfg = s.cfg := rfl
@[simp] theorem State.setSignChar_mem (v1 : Cell) : (s.setSignChar v1).mem = s.mem := rfl
@[simp] theorem State.setSignChar_rsel (v1 : Cell) : (s.setSignChar v1).rsel = s.rsel := rfl
@[simp] theorem State.setSignChar_request (v1 : Cell) : (s.setSignChar v1).request = s.request := rfl
@[simp] theorem State.setSignChar_ms (v1 : Cell) : (s.setSignChar v1).ms = s.ms := rfl
@[simp] theorem State.setSignChar_d (v1 : Cell) : (s.setSignChar v1).d = s.d := rfl
@[simp] theorem State.setSignChar_us1 (v1 : Cell) : (s.setSignChar v1).us1 = s.us1 := rfl
@[simp] theorem State.setSignChar_us2 (v1 : Cell) : (s.setSignChar v1).us2 = s.us2 := rfl
@[simp] theorem State.setSignChar_flags (v1 : Cell) : (s.setSignChar v1).flags = s.flags := rfl
@[simp] theorem State.setSignChar_cal (v1 : Cell) : (s.setSignChar v1).cal = s.cal := rfl
@[simp] theorem State.setSignChar_xdp (v1 : Cell) : (s.setSignChar v1).xdp = s.xdp := rfl
@[simp] theorem State.setSignChar_xseg (v1 : Cell) : (s.setSignChar v1).xseg = s.xseg := rfl
@[simp] theorem State.setSignChar_modeStr (v1 : Cell) : (s.setSignChar v1).modeStr = s.modeStr := rfl
@[simp] theorem State.setSignChar_mergeField (v1 : Cell) : (s.setSignChar v1).mergeField = s.mergeField := rfl
@[simp] theorem State.setSignChar_merged (v1 : Cell) : (s.setSignChar v1).merged = s.merged := rfl
@[simp] theorem State.setSignChar_unitStr (v1 : Cell) : (s.setSignChar v1).unitStr = s.unitStr := rfl
@[simp] theorem State.setSignChar_segChar (v1 : Cell) : (s.setSignChar v1).segChar = s.segChar := rfl
@[simp] theorem State.setSignChar_signChar (v1 : Cell) : (s.setSignChar v1).signChar = v1 := rfl
@[simp] theorem State.setSignChar_dp (v1 : Cell) : (s.setSignChar v1).dp = s.dp := rfl
@[simp] theorem State.setSignChar_key (v1 : Cell) : (s.setSignChar v1).key = s.key := rfl
@[simp] theorem State.setSignChar_dpFound (v1 : Cell) : (s.setSignChar v1).dpFound = s.dpFound := rfl
@[simp] theorem State.setSignChar_digitStr (v1 : Cell) : (s.setSignChar v1).digitStr = s.digitStr := rfl
@[simp] theorem State.setSignChar_reading (v1 : Cell) : (s.setSignChar v1).reading = s.reading := rfl
@[simp] theorem State.setSignChar_stripped (v1 : Cell) : (s.setSignChar v1).stripped = s.stripped := rfl

@[simp] theorem State.setDigits_cfg (v1 : Vector Bit 6) (v2 : Vector Byte 6) (v3 : Bit) (v4 : List Cell) : (s.setDigits v1 v2 v3 v4).cfg = s.cfg := rfl
@[simp] theorem State.setDigits_mem (v1 : Vector Bit 6) (v2 : Vector Byte 6) (v3 : Bit) (v4 : List Cell) : (s.setDigits v1 v2 v3 v4).mem = s.mem := rfl
@[simp] theorem State.setDigits_rsel (v1 : Vector Bit 6) (v2 : Vector Byte 6) (v3 : Bit) (v4 : List Cell) : (s.setDigits v1 v2 v3 v4).rsel = s.rsel := rfl
@[simp] theorem State.setDigits_request (v1 : Vector Bit 6) (v2 : Vector Byte 6) (v3 : Bit) (v4 : List Cell) : (s.setDigits v1 v2 v3 v4).request = s.request := rfl
@[simp] theorem State.setDigits_ms (v1 : Vector Bit 6) (v2 : Vector Byte 6) (v3 : Bit) (v4 : List Cell) : (s.setDigits v1 v2 v3 v4).ms = s.ms := rfl
@[simp] theorem State.setDigits_d (v1 : Vector Bit 6) (v2 : Vector Byte 6) (v3 : Bit) (v4 : List Cell) : (s.setDigits v1 v2 v3 v4).d = s.d := rfl
@[simp] theorem State.setDigits_us1 (v1 : Vector Bit 6) (v2 : Vector Byte 6) (v3 : Bit) (v4 : List Cell) : (s.setDigits v1 v2 v3 v4).us1 = s.us1 := rfl
@[simp] theorem State.setDigits_us2 (v1 : Vector Bit 6) (v2 : Vector Byte 6) (v3 : Bit) (v4 : List Cell) : (s.setDigits v1 v2 v3 v4).us2 = s.us2 := rfl
@[simp] theorem State.setDigits_flags (v1 : Vector Bit 6) (v2 : Vector Byte 6) (v3 : Bit) (v4 : List Cell) : (s.setDigits v1 v2 v3 v4).flags = s.flags := rfl
@[simp] theorem State.setDigits_cal (v1 : Vector Bit 6) (v2 : Vector Byte 6) (v3 : Bit) (v4 : List Cell) : (s.setDigits v1 v2 v3 v4).cal = s.cal := rfl
@[simp] theorem State.setDigits_xdp (v1 : Vector Bit 6) (v2 : Vector Byte 6) (v3 : Bit) (v4 : List Cell) : (s.setDigits v1 v2 v3 v4).xdp = s.xdp := rfl
@[simp] theorem State.setDigits_xseg (v1 : Vector Bit 6) (v2 : Vector Byte 6) (v3 : Bit) (v4 : List Cell) : (s.setDigits v1 v2 v3 v4).xseg = s.xseg := rfl
@[simp] theorem State.setDigits_modeStr (v1 : Vector Bit 6) (v2 : Vector Byte 6) (v3 : Bit) (v4 : List Cell) : (s.setDigits v1 v2 v3 v4).modeStr = s.modeStr := rfl
@[simp] theorem State.setDigits_mergeField (v1 : Vector Bit 6) (v2 : Vector Byte 6) (v3 : Bit) (v4 : List Cell) : (s.setDigits v1 v2 v3 v4).mergeField = s.mergeField := rfl
@[simp] theorem State.setDigits_merged (v1 : Vector Bit 6) (v2 : Vector Byte 6) (v3 : Bit) (v4 : List Cell) : (s.setDigits v1 v2 v3 v4).merged = s.merged := rfl
@[simp] theorem State.setDigits_unitStr (v1 : Vector Bit 6) (v2 : Vector Byte 6) (v3 : Bit) (v4 : List Cell) : (s.setDigits v1 v2 v3 v4).unitStr = s.unitStr := rfl
@[simp] theorem State.setDigits_segChar (v1 : Vector Bit 6) (v2 : Vector Byte 6) (v3 : Bit) (v4 : List Cell) : (s.setDigits v1 v2 v3 v4).segChar = s.segChar := rfl
@[simp] theorem State.setDigits_signChar (v1 : Vector Bit 6) (v2 : Vector Byte 6) (v3 : Bit) (v4 : List Cell) : (s.setDigits v1 v2 v3 v4).signChar = s.signChar := rfl
@[simp] theorem State.setDigits_dp (v1 : Vector Bit 6) (v2 : Vector Byte 6) (v3 : Bit) (v4 : List Cell) : (s.setDigits v1 v2 v3 v4).dp = v1 := rfl
@[simp] theorem State.setDigits_key (v1 : Vector Bit 6) (v2 : Vector Byte 6) (v3 : Bit) (v4 : List Cell) : (s.setDigits v1 v2 v3 v4).key = v2 := rfl
@[simp] theorem State.setDigits_dpFound (v1 : Vector Bit 6) (v2 : Vector Byte 6) (v3 : Bit) (v4 : List Cell) : (s.setDigits v1 v2 v3 v4).dpFound = v3 := rfl
@[simp] theorem State.setDigits_digitStr (v1 : Vector Bit 6) (v2 : Vector Byte 6) (v3 : Bit) (v4 : List Cell) : (s.setDigits v1 v2 v3 v4).digitStr = v4 := rfl
@[simp] theorem State.setDigits_reading (v1 : Vector Bit 6) (v2 : Vector Byte 6) (v3 : Bit) (v4 : List Cell) : (s.setDigits v1 v2 v3 v4).reading = s.reading := rfl
@[simp] theorem State.setDigits_stripped (v1 : Vector Bit 6) (v2 : Vector Byte 6) (v3 : Bit) (v4 : List Cell) : (s.setDigits v1 v2 v3 v4).stripped = s.stripped := rfl

@[simp] theorem State.setReading_cfg (v1 : DecodedReading) : (s.setReading v1).cfg = s.cfg := rfl
@[simp] theorem State.setReading_mem (v1 : DecodedReading) : (s.setReading v1).mem = s.mem := rfl
@[simp] theorem State.setReading_rsel (v1 : DecodedReading) : (s.setReading v1).rsel = s.rsel := rfl
@[simp] theorem State.setReading_request (v1 : DecodedReading) : (s.setReading v1).request = s.request := rfl
@[simp] theorem State.setReading_ms (v1 : DecodedReading) : (s.setReading v1).ms = s.ms := rfl
@[simp] theorem State.setReading_d (v1 : DecodedReading) : (s.setReading v1).d = s.d := rfl
@[simp] theorem State.setReading_us1 (v1 : DecodedReading) : (s.setReading v1).us1 = s.us1 := rfl
@[simp] theorem State.setReading_us2 (v1 : DecodedReading) : (s.setReading v1).us2 = s.us2 := rfl
@[simp] theorem State.setReading_flags (v1 : DecodedReading) : (s.setReading v1).flags = s.flags := rfl
@[simp] theorem State.setReading_cal (v1 : DecodedReading) : (s.setReading v1).cal = s.cal := rfl
@[simp] theorem State.setReading_xdp (v1 : DecodedReading) : (s.setReading v1).xdp = s.xdp := rfl
@[simp] theorem State.setReading_xseg (v1 : DecodedReading) : (s.setReading v1).xseg = s.xseg := rfl
@[simp] theorem State.setReading_modeStr (v1 : DecodedReading) : (s.setReading v1).modeStr = s.modeStr := rfl
@[simp] theorem State.setReading_mergeField (v1 : DecodedReading) : (s.setReading v1).mergeField = s.mergeField := rfl
@[simp] theorem State.setReading_merged (v1 : DecodedReading) : (s.setReading v1).merged = s.merged := rfl
@[simp] theorem State.setReading_unitStr (v1 : DecodedReading) : (s.setReading v1).unitStr = s.unitStr := rfl
@[simp] theorem State.setReading_segChar (v1 : DecodedReading) : (s.setReading v1).segChar = s.segChar := rfl
@[simp] theorem State.setReading_signChar (v1 : DecodedReading) : (s.setReading v1).signChar = s.signChar := rfl
@[simp] theorem State.setReading_dp (v1 : DecodedReading) : (s.setReading v1).dp = s.dp := rfl
@[simp] theorem State.setReading_key (v1 : DecodedReading) : (s.setReading v1).key = s.key := rfl
@[simp] theorem State.setReading_dpFound (v1 : DecodedReading) : (s.setReading v1).dpFound = s.dpFound := rfl
@[simp] theorem State.setReading_digitStr (v1 : DecodedReading) : (s.setReading v1).digitStr = s.digitStr := rfl
@[simp] theorem State.setReading_reading (v1 : DecodedReading) : (s.setReading v1).reading = v1 := rfl
@[simp] theorem State.setReading_stripped (v1 : DecodedReading) : (s.setReading v1).stripped = s.stripped := rfl

@[simp] theorem State.setStripped_cfg (v1 : List Cell) : (s.setStripped v1).cfg = s.cfg := rfl
@[simp] theorem State.setStripped_mem (v1 : List Cell) : (s.setStripped v1).mem = s.mem := rfl
@[simp] theorem State.setStripped_rsel (v1 : List Cell) : (s.setStripped v1).rsel = s.rsel := rfl
@[simp] theorem State.setStripped_request (v1 : List Cell) : (s.setStripped v1).request = s.request := rfl
@[simp] theorem State.setStripped_ms (v1 : List Cell) : (s.setStripped v1).ms = s.ms := rfl
@[simp] theorem State.setStripped_d (v1 : List Cell) : (s.setStripped v1).d = s.d := rfl
@[simp] theorem State.setStripped_us1 (v1 : List Cell) : (s.setStripped v1).us1 = s.us1 := rfl
@[simp] theorem State.setStripped_us2 (v1 : List Cell) : (s.setStripped v1).us2 = s.us2 := rfl
@[simp] theorem State.setStripped_flags (v1 : List Cell) : (s.setStripped v1).flags = s.flags := rfl
@[simp] theorem State.setStripped_cal (v1 : List Cell) : (s.setStripped v1).cal = s.cal := rfl
@[simp] theorem State.setStripped_xdp (v1 : List Cell) : (s.setStripped v1).xdp = s.xdp := rfl
@[simp] theorem State.setStripped_xseg (v1 : List Cell) : (s.setStripped v1).xseg = s.xseg := rfl
@[simp] theorem State.setStripped_modeStr (v1 : List Cell) : (s.setStripped v1).modeStr = s.modeStr := rfl
@[simp] theorem State.setStripped_mergeField (v1 : List Cell) : (s.setStripped v1).mergeField = s.mergeField := rfl
@[simp] theorem State.setStripped_merged (v1 : List Cell) : (s.setStripped v1).merged = s.merged := rfl
@[simp] theorem State.setStripped_unitStr (v1 : List Cell) : (s.setStripped v1).unitStr = s.unitStr := rfl
@[simp] theorem State.setStripped_segChar (v1 : List Cell) : (s.setStripped v1).segChar = s.segChar := rfl
@[simp] theorem State.setStripped_signChar (v1 : List Cell) : (s.setStripped v1).signChar = s.signChar := rfl
@[simp] theorem State.setStripped_dp (v1 : List Cell) : (s.setStripped v1).dp = s.dp := rfl
@[simp] theorem State.setStripped_key (v1 : List Cell) : (s.setStripped v1).key = s.key := rfl
@[simp] theorem State.setStripped_dpFound (v1 : List Cell) : (s.setStripped v1).dpFound = s.dpFound := rfl
@[simp] theorem State.setStripped_digitStr (v1 : List Cell) : (s.setStripped v1).digitStr = s.digitStr := rfl
@[simp] theorem State.setStripped_reading (v1 : List Cell) : (s.setStripped v1).reading = s.reading := rfl
@[simp] theorem State.setStripped_stripped (v1 : List Cell) : (s.setStripped v1).stripped = v1 := rfl

@[simp] theorem State.evalFields_cfg (p : Packet) : (s.evalFields p).cfg = s.cfg := rfl
@[simp] theorem State.evalFields_mem (p : Packet) : (s.evalFields p).mem = s.mem := rfl
@[simp] theorem State.evalFields_rsel (p : Packet) : (s.evalFields p).rsel = s.rsel := rfl
@[simp] theorem State.evalFields_request (p : Packet) : (s.evalFields p).request = s.request := rfl
@[simp] theorem State.evalFields_ms (p : Packet) : (s.evalFields p).ms = pktMs p := rfl
@[simp] theorem State.evalFields_d (p : Packet) : (s.evalFields p).d = pktDigits p := rfl
@[simp] theorem State.evalFields_us1 (p : Packet) : (s.evalFields p).us1 = pktUs1 p := rfl
@[simp] theorem State.evalFields_us2 (p : Packet) : (s.evalFields p).us2 = pktUs2 p := rfl
@[simp] theorem State.evalFields_flags (p : Packet) : (s.evalFields p).flags = s.flags := rfl
@[simp] theorem State.evalFields_cal (p : Packet) : (s.evalFields p).cal = s.cal := rfl
@[simp] theorem State.evalFields_xdp (p : Packet) : (s.evalFields p).xdp = s.xdp := rfl
@[simp] theorem State.evalFields_xseg (p : Packet) : (s.evalFields p).xseg = s.xseg := rfl
@[simp] theorem State.evalFields_modeStr (p : Packet) : (s.evalFields p).modeStr = s.modeStr := rfl
@[simp] theorem State.evalFields_mergeField (p : Packet) : (s.evalFields p).mergeField = s.mergeField := rfl
@[simp] theorem State.evalFields_merged (p : Packet) : (s.evalFields p).merged = s.merged := rfl
@[simp] theorem State.evalFields_unitStr (p : Packet) : (s.evalFields p).unitStr = s.unitStr := rfl
@[simp] theorem State.evalFields_segChar (p : Packet) : (s.evalFields p).segChar = s.segChar := rfl
@[simp] theorem State.evalFields_signChar (p : Packet) : (s.evalFields p).signChar = s.signChar := rfl
@[simp] theorem State.evalFields_dp (p : Packet) : (s.evalFields p).dp = s.dp := rfl
@[simp] theorem State.evalFields_key (p : Packet) : (s.evalFields p).key = s.key := rfl
@[simp] theorem State.evalFields_dpFound (p : Packet) : (s.evalFields p).dpFound = s.dpFound := rfl
@[simp] theorem State.evalFields_digitStr (p : Packet) : (s.evalFields p).digitStr = s.digitStr := rfl
@[simp] theorem State.evalFields_reading (p : Packet) : (s.evalFields p).reading = s.reading := rfl
@[simp] theorem State.evalFields_stripped (p : Packet) : (s.evalFields p).stripped = s.stripped := rfl

@[simp] theorem State.evalDigits_cfg (p : Packet) (r : Bit) : (s.evalDigits p r).cfg = s.cfg := rfl
@[simp] theorem State.evalDigits_mem (p : Packet) (r : Bit) : (s.evalDigits p r).mem = s.mem := rfl
@[simp] theorem State.evalDigits_rsel (p : Packet) (r : Bit) : (s.evalDigits p r).rsel = s.rsel := rfl
@[simp] theorem State.evalDigits_request (p : Packet) (r : Bit) : (s.evalDigits p r).request = s.request := rfl
@[simp] theorem State.evalDigits_ms (p : Packet) (r : Bit) : (s.evalDigits p r).ms = s.ms := rfl
@[simp] theorem State.evalDigits_d (p : Packet) (r : Bit) : (s.evalDigits p r).d = s.d := rfl
@[simp] theorem State.evalDigits_us1 (p : Packet) (r : Bit) : (s.evalDigits p r).us1 = s.us1 := rfl
@[simp] theorem State.evalDigits_us2 (p : Packet) (r : Bit) : (s.evalDigits p r).us2 = s.us2 := rfl
@[simp] theorem State.evalDigits_flags (p : Packet) (r : Bit) : (s.evalDigits p r).flags = s.flags := rfl
@[simp] theorem State.evalDigits_cal (p : Packet) (r : Bit) : (s.evalDigits p r).cal = s.cal := rfl
@[simp] theorem State.evalDigits_xdp (p : Packet) (r : Bit) : (s.evalDigits p r).xdp = s.xdp := rfl
@[simp] theorem State.evalDigits_xseg (p : Packet) (r : Bit) : (s.evalDigits p r).xseg = s.xseg := rfl
@[simp] theorem State.evalDigits_modeStr (p : Packet) (r : Bit) : (s.evalDigits p r).modeStr = s.modeStr := rfl
@[simp] theorem State.evalDigits_mergeField (p : Packet) (r : Bit) : (s.evalDigits p r).mergeField = s.mergeField := rfl
@[simp] theorem State.evalDigits_merged (p : Packet) (r : Bit) : (s.evalDigits p r).merged = s.merged := rfl
@[simp] theorem State.evalDigits_unitStr (p : Packet) (r : Bit) : (s.evalDigits p r).unitStr = s.unitStr := rfl
@[simp] theorem State.evalDigits_segChar (p : Packet) (r : Bit) : (s.evalDigits p r).segChar = s.segChar := rfl
@[simp] theorem State.evalDigits_signChar (p : Packet) (r : Bit) : (s.evalDigits p r).signChar = s.signChar := rfl
@[simp] theorem State.evalDigits_dp (p : Packet) (r : Bit) : (s.evalDigits p r).dp = pktPoints p := rfl
@[simp] theorem State.evalDigits_key (p : Packet) (r : Bit) : (s.evalDigits p r).key = pktKeys p := rfl
@[simp] theorem State.evalDigits_dpFound (p : Packet) (r : Bit) : (s.evalDigits p r).dpFound = (digitWalk s.cfg (flagBit s.cfg (pktMs p) .neg) (pktDigits p)).found := rfl
@[simp] theorem State.evalDigits_digitStr (p : Packet) (r : Bit) : (s.evalDigits p r).digitStr = digitsOf s.cfg p r := rfl
@[simp] theorem State.evalDigits_reading (p : Packet) (r : Bit) : (s.evalDigits p r).reading = s.reading := rfl
@[simp] theorem State.evalDigits_stripped (p : Packet) (r : Bit) : (s.evalDigits p r).stripped = s.stripped := rfl

@[simp] theorem State.evalFlag_cfg (f : Flag) (ms : Byte) : (s.evalFlag f ms).cfg = s.cfg := rfl
@[simp] theorem State.evalFlag_mem (f : Flag) (ms : Byte) : (s.evalFlag f ms).mem = s.mem := rfl
@[simp] theorem State.evalFlag_rsel (f : Flag) (ms : Byte) : (s.evalFlag f ms).rsel = s.rsel := rfl
@[simp] theorem State.evalFlag_request (f : Flag) (ms : Byte) : (s.evalFlag f ms).request = s.request := rfl
@[simp] theorem State.evalFlag_ms (f : Flag) (ms : Byte) : (s.evalFlag f ms).ms = s.ms := rfl
@[simp] theorem State.evalFlag_d (f : Flag) (ms : Byte) : (s.evalFlag f ms).d = s.d := rfl
@[simp] theorem State.evalFlag_us1 (f : Flag) (ms : Byte) : (s.evalFlag f ms).us1 = s.us1 := rfl
@[simp] theorem State.evalFlag_us2 (f : Flag) (ms : Byte) : (s.evalFlag f ms).us2 = s.us2 := rfl
@[simp] theorem State.evalFlag_flags (f : Flag) (ms : Byte) : (s.evalFlag f ms).flags = s.flags.set f (flagBit s.cfg ms f) := rfl
@[simp] theorem State.evalFlag_cal (f : Flag) (ms : Byte) : (s.evalFlag f ms).cal = s.cal := rfl
@[simp] theorem State.evalFlag_xdp (f : Flag) (ms : Byte) : (s.evalFlag f ms).xdp = s.xdp := rfl
@[simp] theorem State.evalFlag_xseg (f : Flag) (ms : Byte) : (s.evalFlag f ms).xseg = s.xseg := rfl
@[simp] theorem State.evalFlag_modeStr (f : Flag) (ms : Byte) : (s.evalFlag f ms).modeStr = s.modeStr := rfl
@[simp] theorem State.evalFlag_mergeField (f : Flag) (ms : Byte) : (s.evalFlag f ms).mergeField = s.mergeField := rfl
@[simp] theorem State.evalFlag_merged (f : Flag) (ms : Byte) : (s.evalFlag f ms).merged = s.merged := rfl
@[simp] theorem State.evalFlag_unitStr (f : Flag) (ms : Byte) : (s.evalFlag f ms).unitStr = s.unitStr := rfl
@[simp] theorem State.evalFlag_segChar (f : Flag) (ms : Byte) : (s.evalFlag f ms).segChar = s.segChar := rfl
@[simp] theorem State.evalFlag_signChar (f : Flag) (ms : Byte) : (s.evalFlag f ms).signChar = s.signChar := rfl
@[simp] theorem State.evalFlag_dp (f : Flag) (ms : Byte) : (s.evalFlag f ms).dp = s.dp := rfl
@[simp] theorem State.evalFlag_key (f : Flag) (ms : Byte) : (s.evalFlag f ms).key = s.key := rfl
@[simp] theorem State.evalFlag_dpFound (f : Flag) (ms : Byte) : (s.evalFlag f ms).dpFound = s.dpFound := rfl
@[simp] theorem State.evalFlag_digitStr (f : Flag) (ms : Byte) : (s.evalFlag f ms).digitStr = s.digitStr := rfl
@[simp] theorem State.evalFlag_reading (f : Flag) (ms : Byte) : (s.evalFlag f ms).reading = s.reading := rfl
@[simp] theorem State.evalFlag_stripped (f : Flag) (ms : Byte) : (s.evalFlag f ms).stripped = s.stripped := rfl

@[simp] theorem State.evalUnitRow_cfg (row : UnitRow) (ac r : Bit) : (s.evalUnitRow row ac r).cfg = s.cfg := rfl
@[simp] theorem State.evalUnitRow_mem (row : UnitRow) (ac r : Bit) : (s.evalUnitRow row ac r).mem = s.mem := rfl
@[simp] theorem State.evalUnitRow_rsel (row : UnitRow) (ac r : Bit) : (s.evalUnitRow row ac r).rsel = s.rsel := rfl
@[simp] theorem State.evalUnitRow_request (row : UnitRow) (ac r : Bit) : (s.evalUnitRow row ac r).request = s.request := rfl
@[simp] theorem State.evalUnitRow_ms (row : UnitRow) (ac r : Bit) : (s.evalUnitRow row ac r).ms = s.ms := rfl
@[simp] theorem State.evalUnitRow_d (row : UnitRow) (ac r : Bit) : (s.evalUnitRow row ac r).d = s.d := rfl
@[simp] theorem State.evalUnitRow_us1 (row : UnitRow) (ac r : Bit) : (s.evalUnitRow row ac r).us1 = s.us1 := rfl
@[simp] theorem State.evalUnitRow_us2 (row : UnitRow) (ac r : Bit) : (s.evalUnitRow row ac r).us2 = s.us2 := rfl
@[simp] theorem State.evalUnitRow_flags (row : UnitRow) (ac r : Bit) : (s.evalUnitRow row ac r).flags = s.flags := rfl
@[simp] theorem State.evalUnitRow_cal (row : UnitRow) (ac r : Bit) : (s.evalUnitRow row ac r).cal = s.cal := rfl
@[simp] theorem State.evalUnitRow_xdp (row : UnitRow) (ac r : Bit) : (s.evalUnitRow row ac r).xdp = s.xdp := rfl
@[simp] theorem State.evalUnitRow_xseg (row : UnitRow) (ac r : Bit) : (s.evalUnitRow row ac r).xseg = s.xseg := rfl
@[simp] theorem State.evalUnitRow_modeStr (row : UnitRow) (ac r : Bit) : (s.evalUnitRow row ac r).modeStr = s.modeStr := rfl
@[simp] theorem State.evalUnitRow_mergeField (row : UnitRow) (ac r : Bit) : (s.evalUnitRow row ac r).mergeField = s.mergeField := rfl
@[simp] theorem State.evalUnitRow_merged (row : UnitRow) (ac r : Bit) : (s.evalUnitRow row ac r).merged = s.merged := rfl
@[simp] theorem State.evalUnitRow_unitStr (row : UnitRow) (ac r : Bit) : (s.evalUnitRow row ac r).unitStr = unitRowCells s.cfg row ac r := rfl
@[simp] theorem State.evalUnitRow_segChar (row : UnitRow) (ac r : Bit) : (s.evalUnitRow row ac r).segChar = s.segChar := rfl
@[simp] theorem State.evalUnitRow_signChar (row : UnitRow) (ac r : Bit) : (s.evalUnitRow row ac r).signChar = s.signChar := rfl
@[simp] theorem State.evalUnitRow_dp (row : UnitRow) (ac r : Bit) : (s.evalUnitRow row ac r).dp = s.dp := rfl
@[simp] theorem State.evalUnitRow_key (row : UnitRow) (ac r : Bit) : (s.evalUnitRow row ac r).key = s.key := rfl
@[simp] theorem State.evalUnitRow_dpFound (row : UnitRow) (ac r : Bit) : (s.evalUnitRow row ac r).dpFound = s.dpFound := rfl
@[simp] theorem State.evalUnitRow_digitStr (row : UnitRow) (ac r : Bit) : (s.evalUnitRow row ac r).digitStr = s.digitStr := rfl
@[simp] theorem State.evalUnitRow_reading (row : UnitRow) (ac r : Bit) : (s.evalUnitRow row ac r).reading = s.reading := rfl
@[simp] theorem State.evalUnitRow_stripped (row : UnitRow) (ac r : Bit) : (s.evalUnitRow row ac r).stripped = s.stripped := rfl

end Sys2Proof.Machine
end

