-- ==== Sys2Proof/Laws/Strings.lean ====
section
/-! SUPPORT. The shared byte and string operations, once each: what the key and the merge field hold, the widths of the strings, and
what the walk over the digit bytes does. -/

namespace Sys2Proof

@[simp] theorem segKey_getLsbD (b : Byte) (i : Nat) : (segKey b).getLsbD i = (b.getLsbD i && decide (i ≠ 2)) := by
  have h : ∀ j < 8, (0xFB#8).getLsbD j = decide (j ≠ 2) := by decide
  by_cases hi : i < 8
  · rw [segKey, BitVec.getLsbD_and]; exact congrArg _ (h i hi)
  · simp [segKey, BitVec.getLsbD_of_ge b i (by omega)]

@[simp] theorem blanks_length (n : Nat) : (blanks n).length = n := by simp [blanks]

@[simp] theorem acCells_length (ac : Bit) : (acCells ac).length = 2 := by cases ac <;> rfl

@[simp] theorem unitRowCells_length (c : Cfg) (row : UnitRow) (ac rsel : Bit) : (unitRowCells c row ac rsel).length = 5 := by
  cases row <;> simp [unitRowCells]

@[simp] theorem autoField_length (v : Bit) : (autoField v).length = 5 := by cases v <;> rfl

@[simp] theorem relField_length (v : Bit) : (relField v).length = 4 := by cases v <;> rfl

@[simp] theorem dbField_length (v : Bit) : (dbField v).length = 3 := by cases v <;> rfl

@[simp] theorem slotField_length (sto rcl cal : Bit) : (slotField sto rcl cal).length = 3 := by
  cases sto <;> cases rcl <;> cases cal <;> rfl

@[simp] theorem getmodeCells_length (auto rel db sto rcl cal : Bit) : (getmodeCells auto rel db sto rcl cal).length = 15 := by
  simp [getmodeCells]

/-- What one digit byte adds to the digit string. -/
def digitPiece (c : Cfg) (b : Byte) : List Cell := (if dpBit b then [asc '.'] else []) ++ [segdecOf c (segKey b)]

/-- What the walk does over any list of digit bytes: it appends each byte's piece, and finds a point when one of them has one. -/
theorem walkDigit_foldl (c : Cfg) (bs : List Byte) (w : Walk) :
    bs.foldl (walkDigit c) w = { text := w.text ++ bs.flatMap (digitPiece c), found := w.found || bs.any dpBit } := by
  induction bs generalizing w with
  | nil => simp
  | cons b bs ih => simp [ih, walkDigit, digitPiece, Bool.or_assoc]

/-- The walk over the six digit bytes of a packet. -/
theorem digitWalk_eq (c : Cfg) (neg : Bit) (ds : Vector Byte 6) :
    digitWalk c neg ds = { text := signCell neg :: ds.toList.flatMap (digitPiece c), found := ds.toList.any dpBit } := by
  rw [digitWalk, walkDigit_foldl]; rfl

/-- The cells the walk appends: one for each byte, and one more for each point. -/
theorem flatMap_digitPiece_length (c : Cfg) (bs : List Byte) :
    (bs.flatMap (digitPiece c)).length = bs.length + bs.countP dpBit := by
  induction bs with
  | nil => rfl
  | cons b bs ih => cases h : dpBit b <;> simp [digitPiece, h, ih] <;> omega

/-- STRIP takes a prefix of leading cells off and leaves a string that starts with none of them. -/
theorem stripCells_spec (s : List Cell) :
    s = s.takeWhile isLead ++ stripCells s ∧ ∀ x, (stripCells s).head? = some x → isLead x = false := by
  refine ⟨(List.takeWhile_append_dropWhile).symm, fun x hx => ?_⟩
  have := List.head?_dropWhile_not isLead s
  rw [stripCells] at hx
  rw [hx] at this
  simpa using this

end Sys2Proof
end

