-- ==== Sys2Proof/Tests/Slice0.lean ====
section
/-! SUPPORT. Tests: the ill-formed terms the checks refuse, the decoding of a word of every row written out from the spec's encoding,
the spec's vectors (spec/95_test_vectors.md) on one step each. -/

namespace Sys2Proof.Machine

/-- A state under CFG0 with a packet and a selector presented. -/
def presented (pkt : Packet) (rsel : Bit) : State := { State.reset with mem := Memory.ofPacket pkt, rsel := rsel }

/-- A state under CFG0 with one operation presented alone. -/
def asked (f : Format) (bytes : List Byte) : State := { State.reset with request := some ⟨f, bytes⟩ }

/-- One field of the next state, if there is a next state. -/
def fieldOf {α : Type} (r : Result) (f : State → α) : Option α :=
  match r with
  | .next t => some (f t)
  | .fault _ => none
  | .refused _ => none

/-- The instruction an answer of the decoder holds. -/
def decoded (r : Except DecodeError Instr) : Option Instr :=
  match r with
  | .ok i => some i
  | .error _ => none

/-- The reason an answer of the decoder holds. -/
def refusedFor (r : Except DecodeError Instr) : Option DecodeError :=
  match r with
  | .ok _ => none
  | .error e => some e

/-- The refusal a step ends in. -/
def refusalOf (r : Result) : Option Refusal :=
  match r with
  | .next _ => none
  | .fault _ => none
  | .refused e => some e

/-! ## WellFormed: a term for each check -/

theorem test_cfg0_legal : cfg0.legal = true := by decide
theorem test_illegal_two_flags_on_one_bit : Cfg.legal { cfg0 with bitRel := 0 } = false := by decide
theorem test_illegal_two_bit_mask : Cfg.legal { cfg0 with uMilliV := 0x06 } = false := by decide
theorem test_illegal_same_base_flags : Cfg.legal { cfg0 with uAmp := 0x80 } = false := by decide
theorem test_illegal_kilo_is_mega : Cfg.legal { cfg0 with uKilo := 0x20 } = false := by decide
theorem test_illegal_scale_is_base : Cfg.legal { cfg0 with uMilliV := 0x01 } = false := by decide
theorem test_legal_shared_scale_bit : Cfg.legal { cfg0 with uMilliV := 0x08 } = true := by decide
theorem test_illegal_key_with_bit_two : Cfg.legal { cfg0 with segtab := (0x14, 0x50) :: cfg0.segtab } = false := by decide
theorem test_illegal_two_rows_one_key : Cfg.legal { cfg0 with segtab := (0x00, 0x50) :: cfg0.segtab } = false := by decide
theorem test_illegal_source_row_missing : Cfg.legal { cfg0 with segtab := [] } = false := by decide
theorem test_illegal_sentinel_row : Cfg.legal { cfg0 with segtab := (0x10, 0x5F) :: cfg0.segtab } = false := by decide
theorem test_illformed_mode_width : Instr.wf cfg0 (.format [] (blanks 8) (blanks 5)) = false := by decide
theorem test_illformed_short_digits : Instr.wf cfg0 (.format (blanks 15) (blanks 7) (blanks 5)) = false := by decide
theorem test_illformed_long_digits : Instr.wf cfg0 (.format (blanks 15) (blanks 14) (blanks 5)) = false := by decide
theorem test_illformed_unit_width : Instr.wf cfg0 (.format (blanks 15) (blanks 8) (blanks 4)) = false := by decide
theorem test_wellformed_format : Instr.wf cfg0 (.format (blanks 15) (blanks 13) (blanks 5)) = true := by decide
theorem test_illformed_seg_row : Instr.wf cfg0 (.seg0 0xC0) = false := by decide
theorem test_illformed_sentinel_row : Instr.wf cfg0 (.segUnknown 0xEB) = false := by decide
theorem test_illformed_unit_row_not_first : Instr.wf cfg0 (.unitOhm 0x90 false false) = false := by decide
theorem test_memory_unsorted : Memory.wf [(3, 1), (2, 1)] = false := by decide
theorem test_memory_beyond_packet : Memory.wf [(18, 1)] = false := by decide
theorem test_memory_lists_zero : Memory.wf [(3, 0)] = false := by decide

/-! ## Decoding: a word of every row, written out from the spec's encoding -/

theorem test_decode_fields : decoded (decode cfg0 ⟨.fields, [0x00, 0x01, 0x02, 0x03, 0x04, 0x05, 0x06, 0x07, 0x08, 0x09, 0x0A, 0x0B, 0x0C, 0x0D, 0x0E, 0x0F, 0x10, 0x11]⟩) = some (.fields #v[0x00, 0x01, 0x02, 0x03, 0x04, 0x05, 0x06, 0x07, 0x08, 0x09, 0x0A, 0x0B, 0x0C, 0x0D, 0x0E, 0x0F, 0x10, 0x11]) := by decide
/-- nlsdcbra: RCL and REL. -/
theorem test_decode_xmode : decoded (decode cfg0 ⟨.xmode, [0b01000010]⟩) = some (.xmode 0x42) := by decide
theorem test_decode_xcal : decoded (decode cfg0 ⟨.xcal, [0x00, 0x01, 0x02, 0x03, 0x04, 0x05, 0x06, 0x07, 0x08, 0x09, 0x0A, 0x0B, 0x0C, 0x0D, 0x0E, 0x0F, 0x10, 0x11]⟩) = some (.xcal #v[0x00, 0x01, 0x02, 0x03, 0x04, 0x05, 0x06, 0x07, 0x08, 0x09, 0x0A, 0x0B, 0x0C, 0x0D, 0x0E, 0x0F, 0x10, 0x11]) := by decide
/-- xxxxxpxx. -/
theorem test_decode_xdp : decoded (decode cfg0 ⟨.xdp, [0b00000100]⟩) = some (.xdp 0x04) := by decide
/-- kkkkkxkk. -/
theorem test_decode_xseg : decoded (decode cfg0 ⟨.xseg, [0b01111110]⟩) = some (.xseg 0x7E) := by decide
/-- xlsdxxra and CAL: AUTO, DB and RCL set, the three ignored bits set too. -/
theorem test_decode_getmode : decoded (decode cfg0 ⟨.getmode, [0b11011101, 1]⟩) = some (.getmode true false true false true true) := by decide
/-- us1, then us2 = xxxxxhgx. -/
theorem test_decode_merge : decoded (decode cfg0 ⟨.merge, [0xA5, 0b00000110]⟩) = some (.merge 0xA5 0x06) := by decide
/-- oagkiuwv, AC, rsel. -/
theorem test_decode_unitdec : decoded (decode cfg0 ⟨.unitdec, [0b01001000, 1, 0]⟩) = some (.unitdec 0x48 true false) := by decide
/-- kkkkk0kk. -/
theorem test_decode_segdec : decoded (decode cfg0 ⟨.segdec, [0b11101011]⟩) = some (.segdec 0xEB) := by decide
/-- nxxxxxxx. -/
theorem test_decode_signch : decoded (decode cfg0 ⟨.signch, [0b10000000]⟩) = some (.signch true) := by decide
theorem test_decode_signch_clear : decoded (decode cfg0 ⟨.signch, [0b01111111]⟩) = some (.signch false) := by decide
theorem test_decode_digits : decoded (decode cfg0 ⟨.digits, [0x00, 0x01, 0x02, 0x03, 0x04, 0x05, 0x06, 0x07, 0x08, 0x09, 0x0A, 0x0B, 0x0C, 0x0D, 0x0E, 0x0F, 0x10, 0x11, 0x01]⟩) = some (.digits #v[0x00, 0x01, 0x02, 0x03, 0x04, 0x05, 0x06, 0x07, 0x08, 0x09, 0x0A, 0x0B, 0x0C, 0x0D, 0x0E, 0x0F, 0x10, 0x11] true) := by decide
/-- mmmmmmmmmmmmmmm gggggggg nnnnn, one cell each. -/
theorem test_decode_format : decoded (decode cfg0 ⟨.format, List.replicate 15 0x4D ++ List.replicate 8 0x47 ++ List.replicate 5 0x4E⟩) =
    some (.format (List.replicate 15 0x4D) (List.replicate 8 0x47) (List.replicate 5 0x4E)) := by decide
theorem test_decode_strip : decoded (decode cfg0 ⟨.strip, [0x20, 0x2D, 0x30]⟩) = some (.strip [0x20, 0x2D, 0x30]) := by decide
theorem test_decode_decode : decoded (decode cfg0 ⟨.decode, [0x00, 0x01, 0x02, 0x03, 0x04, 0x05, 0x06, 0x07, 0x08, 0x09, 0x0A, 0x0B, 0x0C, 0x0D, 0x0E, 0x0F, 0x10, 0x11, 0x00]⟩) = some (.decode #v[0x00, 0x01, 0x02, 0x03, 0x04, 0x05, 0x06, 0x07, 0x08, 0x09, 0x0A, 0x0B, 0x0C, 0x0D, 0x0E, 0x0F, 0x10, 0x11] false) := by decide
/-- 00000x00, with the point. -/
theorem test_decode_segBlank : decoded (decode cfg0 ⟨.segcode, [0b00000100]⟩) = some (.segBlank 0x04) := by decide
/-- 11101x11, with the point. -/
theorem test_decode_seg0 : decoded (decode cfg0 ⟨.segcode, [0b11101111]⟩) = some (.seg0 0xEF) := by decide
/-- 11000x00, with the point. -/
theorem test_decode_seg1 : decoded (decode cfg0 ⟨.segcode, [0b11000100]⟩) = some (.seg1 0xC4) := by decide
/-- 01111x10, with the point. -/
theorem test_decode_seg2 : decoded (decode cfg0 ⟨.segcode, [0b01111110]⟩) = some (.seg2 0x7E) := by decide
/-- 11111x00, with the point. -/
theorem test_decode_seg3 : decoded (decode cfg0 ⟨.segcode, [0b11111100]⟩) = some (.seg3 0xFC) := by decide
/-- 11010x01, with the point. -/
theorem test_decode_seg4 : decoded (decode cfg0 ⟨.segcode, [0b11010101]⟩) = some (.seg4 0xD5) := by decide
/-- 10111x01, with the point. -/
theorem test_decode_seg5 : decoded (decode cfg0 ⟨.segcode, [0b10111101]⟩) = some (.seg5 0xBD) := by decide
/-- 10111x11, with the point. -/
theorem test_decode_seg6 : decoded (decode cfg0 ⟨.segcode, [0b10111111]⟩) = some (.seg6 0xBF) := by decide
/-- 11001x00, with the point. -/
theorem test_decode_seg7 : decoded (decode cfg0 ⟨.segcode, [0b11001100]⟩) = some (.seg7 0xCC) := by decide
/-- 11111x11, with the point. -/
theorem test_decode_seg8 : decoded (decode cfg0 ⟨.segcode, [0b11111111]⟩) = some (.seg8 0xFF) := by decide
/-- 11111x01, with the point. -/
theorem test_decode_seg9 : decoded (decode cfg0 ⟨.segcode, [0b11111101]⟩) = some (.seg9 0xFD) := by decide
/-- 11011x11, with the point. -/
theorem test_decode_segCapA : decoded (decode cfg0 ⟨.segcode, [0b11011111]⟩) = some (.segCapA 0xDF) := by decide
/-- 00101x11, with the point. -/
theorem test_decode_segCapC : decoded (decode cfg0 ⟨.segcode, [0b00101111]⟩) = some (.segCapC 0x2F) := by decide
/-- 00111x11, with the point. -/
theorem test_decode_segCapE : decoded (decode cfg0 ⟨.segcode, [0b00111111]⟩) = some (.segCapE 0x3F) := by decide
/-- 11010x11, with the point. -/
theorem test_decode_segCapH : decoded (decode cfg0 ⟨.segcode, [0b11010111]⟩) = some (.segCapH 0xD7) := by decide
/-- 00100x11, with the point. -/
theorem test_decode_segCapL : decoded (decode cfg0 ⟨.segcode, [0b00100111]⟩) = some (.segCapL 0x27) := by decide
/-- 00110x10, with the point [U3]: a row expected pending hardware confirmation (log 17). -/
theorem test_decode_segLowC : decoded (decode cfg0 ⟨.segcode, [0b00110110]⟩) = some (.segLowC 0x36) := by decide
/-- 10010x10, with the point. -/
theorem test_decode_segLowN : decoded (decode cfg0 ⟨.segcode, [0b10010110]⟩) = some (.segLowN 0x96) := by decide
/-- 10110x10, with the point. -/
theorem test_decode_segLowO : decoded (decode cfg0 ⟨.segcode, [0b10110110]⟩) = some (.segLowO 0xB6) := by decide
/-- 00010x10, with the point. -/
theorem test_decode_segLowR : decoded (decode cfg0 ⟨.segcode, [0b00010110]⟩) = some (.segLowR 0x16) := by decide
/-- 00110x11, with the point. -/
theorem test_decode_segLowT : decoded (decode cfg0 ⟨.segcode, [0b00110111]⟩) = some (.segLowT 0x37) := by decide
/-- 10100x10, with the point. -/
theorem test_decode_segLowU : decoded (decode cfg0 ⟨.segcode, [0b10100110]⟩) = some (.segLowU 0xA6) := by decide
/-- 00110x00, with the point. -/
theorem test_decode_segEq : decoded (decode cfg0 ⟨.segcode, [0b00110100]⟩) = some (.segEq 0x34) := by decide
theorem test_decode_segUnknown : decoded (decode cfg0 ⟨.segcode, [0b00010000]⟩) = some (.segUnknown 0x10) := by decide
/-- xxxxxxx1. -/
theorem test_decode_flagAuto : decoded (decode cfg0 ⟨.modestatus .auto, [0b00000001]⟩) = some (.flagAuto 0x01) := by decide
/-- xxxxxx1x. -/
theorem test_decode_flagRel : decoded (decode cfg0 ⟨.modestatus .rel, [0b00000010]⟩) = some (.flagRel 0x02) := by decide
/-- xxxxx1xx. -/
theorem test_decode_flagBat : decoded (decode cfg0 ⟨.modestatus .bat, [0b00000100]⟩) = some (.flagBat 0x04) := by decide
/-- xxxx1xxx. -/
theorem test_decode_flagAc : decoded (decode cfg0 ⟨.modestatus .ac, [0b00001000]⟩) = some (.flagAc 0x08) := by decide
/-- xxx1xxxx. -/
theorem test_decode_flagDb : decoded (decode cfg0 ⟨.modestatus .db, [0b00010000]⟩) = some (.flagDb 0x10) := by decide
/-- xx1xxxxx. -/
theorem test_decode_flagSto : decoded (decode cfg0 ⟨.modestatus .sto, [0b00100000]⟩) = some (.flagSto 0x20) := by decide
/-- x1xxxxxx. -/
theorem test_decode_flagRcl : decoded (decode cfg0 ⟨.modestatus .rcl, [0b01000000]⟩) = some (.flagRcl 0x40) := by decide
/-- 1xxxxxxx. -/
theorem test_decode_flagNeg : decoded (decode cfg0 ⟨.modestatus .neg, [0b10000000]⟩) = some (.flagNeg 0x80) := by decide
theorem test_decode_flagCal : decoded (decode cfg0 ⟨.calflag, [0x00, 0x01, 0x02, 0x03, 0x04, 0x05, 0x06, 0x07, 0x08, 0x09, 0x0A, 0x0B, 0x0C, 0x0D, 0x0E, 0x0F, 0x10, 0x11]⟩) = some (.flagCal #v[0x00, 0x01, 0x02, 0x03, 0x04, 0x05, 0x06, 0x07, 0x08, 0x09, 0x0A, 0x0B, 0x0C, 0x0D, 0x0E, 0x0F, 0x10, 0x11]) := by decide
/-- xxxxxhgx. -/
theorem test_decode_us2MergeField : decoded (decode cfg0 ⟨.unitstatus2, [0b11111011]⟩) = some (.us2MergeField 0xFB) := by decide
/-- match 0x90. -/
theorem test_decode_unitKiloohm : decoded (decode cfg0 ⟨.mergedunits, [0b10010000, 0, 1]⟩) = some (.unitKiloohm 0x90 false true) := by decide
/-- match 0xA0. -/
theorem test_decode_unitMegaohm : decoded (decode cfg0 ⟨.mergedunits, [0b10100000, 0, 1]⟩) = some (.unitMegaohm 0xA0 false true) := by decide
/-- match 0x80. -/
theorem test_decode_unitOhm : decoded (decode cfg0 ⟨.mergedunits, [0b10000000, 0, 1]⟩) = some (.unitOhm 0x80 false true) := by decide
/-- match 0x44. -/
theorem test_decode_unitMicroamp : decoded (decode cfg0 ⟨.mergedunits, [0b01000100, 0, 1]⟩) = some (.unitMicroamp 0x44 false true) := by decide
/-- match 0x48. -/
theorem test_decode_unitMilliamp : decoded (decode cfg0 ⟨.mergedunits, [0b01001000, 0, 1]⟩) = some (.unitMilliamp 0x48 false true) := by decide
/-- match 0x40. -/
theorem test_decode_unitAmp : decoded (decode cfg0 ⟨.mergedunits, [0b01000000, 0, 1]⟩) = some (.unitAmp 0x40 false true) := by decide
/-- match 0x03. -/
theorem test_decode_unitMillivolt : decoded (decode cfg0 ⟨.mergedunits, [0b00000011, 0, 1]⟩) = some (.unitMillivolt 0x03 false true) := by decide
/-- match 0x01. -/
theorem test_decode_unitVolt : decoded (decode cfg0 ⟨.mergedunits, [0b00000001, 0, 1]⟩) = some (.unitVolt 0x01 false true) := by decide
/-- match 0x00. -/
theorem test_decode_unitNone : decoded (decode cfg0 ⟨.mergedunits, [0b00000000, 0, 1]⟩) = some (.unitNone 0x00 false true) := by decide
theorem test_short_buffer_refused : refusedFor (decode cfg0 ⟨.fields, List.replicate 17 0⟩) = some (.notAPacket 17) := by decide
theorem test_long_buffer_refused : refusedFor (decode cfg0 ⟨.decode, List.replicate 20 0⟩) = some (.notAPacket 19) := by decide
theorem test_operand_count_refused : refusedFor (decode cfg0 ⟨.merge, [1]⟩) = some (.operandCount 2 1) := by decide
theorem test_bit_operand_refused : refusedFor (decode cfg0 ⟨.unitdec, [1, 2, 0]⟩) = some (.notABit 2) := by decide
theorem test_format_width_refused : refusedFor (decode cfg0 ⟨.format, List.replicate 34 0x20⟩) = some (.stringWidth 34) := by decide

/-! ## The spec's vectors, one step each -/

/-- V-FIELDS-1. -/
theorem test_fields_digits : fieldOf (step (asked .fields [0x00, 0x01, 0x02, 0x03, 0x04, 0x05, 0x06, 0x07, 0x08, 0x09, 0x0A, 0x0B, 0x0C, 0x0D, 0x0E, 0x0F, 0x10, 0x11])) (·.d) = some #v[0x09, 0x0A, 0x0B, 0x0C, 0x0D, 0x0E] := by decide
/-- V-FIELDS-1. -/
theorem test_fields_status : fieldOf (step (asked .fields [0x00, 0x01, 0x02, 0x03, 0x04, 0x05, 0x06, 0x07, 0x08, 0x09, 0x0A, 0x0B, 0x0C, 0x0D, 0x0E, 0x0F, 0x10, 0x11])) (fun t => (t.ms, t.us1, t.us2)) = some (0x08, 0x0F, 0x10) := by decide
/-- V-XMODE-8A [CFG0]. -/
theorem test_xmode_8A : fieldOf (step (asked .xmode [0x8A])) (·.flags) = some ⟨false, true, false, true, false, false, false, true⟩ := by decide
/-- V-XMODE-65 [CFG0]. -/
theorem test_xmode_65 : fieldOf (step (asked .xmode [0x65])) (·.flags) = some ⟨true, false, true, false, false, true, true, false⟩ := by decide
/-- V-XCAL [CFG0]. -/
theorem test_xcal_cfg0 : fieldOf (step (asked .xcal [0xFF, 0xFF, 0xFF, 0xFF, 0xFF, 0xFF, 0xFF, 0xFF, 0xFF, 0xFF, 0xFF, 0xFF, 0xFF, 0xFF, 0xFF, 0xFF, 0xFF, 0xFF])) (·.cal) = some false := by decide
/-- A selector other than CFG0's: bit 3 of byte 17 (R53, any total function). -/
theorem test_xcal_selector : fieldOf (exec (.xcal #v[0x00, 0x00, 0x00, 0x00, 0x00, 0x00, 0x00, 0x00, 0x00, 0x00, 0x00, 0x00, 0x00, 0x00, 0x00, 0x00, 0x00, 0x08]) { State.reset with cfg := { cfg0 with calSel := .node 17 3 (.leaf false) (.leaf true) } }) (·.cal) = some true := by decide
/-- V-XDP. -/
theorem test_xdp_7E : fieldOf (step (asked .xdp [0x7E])) (·.xdp) = some true := by decide
/-- V-XDP. -/
theorem test_xdp_FB : fieldOf (step (asked .xdp [0xFB])) (·.xdp) = some false := by decide
/-- V-XSEG. -/
theorem test_xseg_7E : fieldOf (step (asked .xseg [0x7E])) (·.xseg) = some 0x7A := by decide
/-- V-XSEG. -/
theorem test_xseg_36 : fieldOf (step (asked .xseg [0x36])) (·.xseg) = some 0x32 := by decide
/-- V-MODE-ALL. -/
theorem test_getmode_all : fieldOf (step (asked .getmode [0x73, 1])) (·.modeStr) = some [0x41, 0x55, 0x54, 0x4F, 0x20, 0x52, 0x45, 0x4C, 0x20, 0x64, 0x42, 0x20, 0x53, 0x54, 0x4F] := by decide
/-- V-MODE-LC. -/
theorem test_getmode_rcl_beats_cal : fieldOf (step (asked .getmode [0x40, 1])) (·.modeStr) = some [0x20, 0x20, 0x20, 0x20, 0x20, 0x20, 0x20, 0x20, 0x20, 0x20, 0x20, 0x20, 0x52, 0x43, 0x4C] := by decide
/-- V-MERGE-12. -/
theorem test_merge_12 : fieldOf (step (asked .merge [0xA5, 0x5A])) (·.merged) = some 0xE5 := by decide
/-- V-MERGE-5. -/
theorem test_merge_5 : fieldOf (step (asked .merge [0x00, 0xF9])) (·.merged) = some 0x00 := by decide
/-- V-UNIT-5a [CFG0]. -/
theorem test_unitdec_milliamp_ac : fieldOf (step (asked .unitdec [0x48, 1, 0])) (·.unitStr) = some [0x6D, 0x41, 0x20, 0x41, 0x43] := by decide
/-- V-UNIT-PRI 1 over 2 [CFG0]. -/
theorem test_unitdec_kilo_over_mega : fieldOf (step (asked .unitdec [0xB0, 1, 1])) (·.unitStr) = some [0x6B, 0xF4, 0x20, 0x20, 0x20] := by decide
/-- V-SEG-SRC. -/
theorem test_segdec_0 : fieldOf (step (asked .segdec [0xEB])) (·.segChar) = some 0x30 := by decide
/-- R90: a byte with bit 2 set finds no row. -/
theorem test_segdec_bit_two : fieldOf (step (asked .segdec [0xEF])) (·.segChar) = some 0x5F := by decide
/-- R100, CFG0. -/
theorem test_signch_minus : fieldOf (step (asked .signch [0x8A])) (·.signChar) = some 0x2D := by decide
/-- R100, CFG0. -/
theorem test_signch_space : fieldOf (step (asked .signch [0x7F])) (·.signChar) = some 0x20 := by decide
/-- V-DIG-2. -/
theorem test_digits_negative_no_point : fieldOf (step (asked .digits [0x00, 0x00, 0x00, 0x00, 0x00, 0x00, 0x00, 0x00, 0x80, 0xEB, 0xC0, 0x7A, 0xF8, 0xD1, 0xB9, 0x00, 0x00, 0x00, 0x00])) (·.digitStr) = some [0x20, 0x2D, 0x30, 0x31, 0x32, 0x33, 0x34, 0x35] := by decide
/-- V-DIG-11. -/
theorem test_digits_two_points : fieldOf (step (asked .digits [0x00, 0x00, 0x00, 0x00, 0x00, 0x00, 0x00, 0x00, 0x00, 0xEB, 0xC4, 0x7E, 0xF8, 0xD1, 0xB9, 0x00, 0x00, 0x00, 0x00])) (·.digitStr) = some [0x20, 0x30, 0x2E, 0x31, 0x2E, 0x32, 0x33, 0x34, 0x35] := by decide
/-- R110: no cell changes. -/
theorem test_format_cells : fieldOf (step (asked .format (List.replicate 15 0x4D ++ List.replicate 13 0x47 ++ List.replicate 5 0x4E))) (·.reading) =
    some ⟨List.replicate 15 0x4D, List.replicate 13 0x47, List.replicate 5 0x4E⟩ := by decide
/-- V-STRIP-7. -/
theorem test_strip_keeps_trailing : fieldOf (step (asked .strip [0x20, 0x20, 0x20, 0x45, 0x72, 0x72, 0x20, 0x20])) (·.stripped) = some [0x45, 0x72, 0x72, 0x20, 0x20] := by decide
/-- V-STRIP-6. -/
theorem test_strip_empty : fieldOf (step (asked .strip [0x20, 0x20, 0x20, 0x20, 0x20, 0x20, 0x20, 0x20])) (·.stripped) = some [] := by decide
/-- V-SEG SEG_BLANK. -/
theorem test_segBlank : fieldOf (step (asked .segcode [0x00])) (·.segChar) = some 0x20 := by decide
/-- V-SEG SEG_0. -/
theorem test_seg0 : fieldOf (step (asked .segcode [0xEB])) (·.segChar) = some 0x30 := by decide
/-- V-SEG SEG_1. -/
theorem test_seg1 : fieldOf (step (asked .segcode [0xC0])) (·.segChar) = some 0x31 := by decide
/-- V-SEG SEG_2. -/
theorem test_seg2 : fieldOf (step (asked .segcode [0x7A])) (·.segChar) = some 0x32 := by decide
/-- V-SEG SEG_3. -/
theorem test_seg3 : fieldOf (step (asked .segcode [0xF8])) (·.segChar) = some 0x33 := by decide
/-- V-SEG SEG_4. -/
theorem test_seg4 : fieldOf (step (asked .segcode [0xD1])) (·.segChar) = some 0x34 := by decide
/-- V-SEG SEG_5. -/
theorem test_seg5 : fieldOf (step (asked .segcode [0xB9])) (·.segChar) = some 0x35 := by decide
/-- V-SEG SEG_6. -/
theorem test_seg6 : fieldOf (step (asked .segcode [0xBB])) (·.segChar) = some 0x36 := by decide
/-- V-SEG SEG_7. -/
theorem test_seg7 : fieldOf (step (asked .segcode [0xC8])) (·.segChar) = some 0x37 := by decide
/-- V-SEG SEG_8. -/
theorem test_seg8 : fieldOf (step (asked .segcode [0xFB])) (·.segChar) = some 0x38 := by decide
/-- V-SEG SEG_9. -/
theorem test_seg9 : fieldOf (step (asked .segcode [0xF9])) (·.segChar) = some 0x39 := by decide
/-- V-SEG SEG_A. -/
theorem test_segCapA : fieldOf (step (asked .segcode [0xDB])) (·.segChar) = some 0x41 := by decide
/-- V-SEG SEG_C. -/
theorem test_segCapC : fieldOf (step (asked .segcode [0x2B])) (·.segChar) = some 0x43 := by decide
/-- V-SEG SEG_E. -/
theorem test_segCapE : fieldOf (step (asked .segcode [0x3B])) (·.segChar) = some 0x45 := by decide
/-- V-SEG SEG_H. -/
theorem test_segCapH : fieldOf (step (asked .segcode [0xD3])) (·.segChar) = some 0x48 := by decide
/-- V-SEG SEG_L. -/
theorem test_segCapL : fieldOf (step (asked .segcode [0x23])) (·.segChar) = some 0x4C := by decide
/-- V-SEG SEG_c [U3]: expected pending hardware confirmation. -/
theorem test_segLowC : fieldOf (step (asked .segcode [0x32])) (·.segChar) = some 0x63 := by decide
/-- V-SEG SEG_n. -/
theorem test_segLowN : fieldOf (step (asked .segcode [0x92])) (·.segChar) = some 0x6E := by decide
/-- V-SEG SEG_o. -/
theorem test_segLowO : fieldOf (step (asked .segcode [0xB2])) (·.segChar) = some 0x6F := by decide
/-- V-SEG SEG_r. -/
theorem test_segLowR : fieldOf (step (asked .segcode [0x12])) (·.segChar) = some 0x72 := by decide
/-- V-SEG SEG_t. -/
theorem test_segLowT : fieldOf (step (asked .segcode [0x33])) (·.segChar) = some 0x74 := by decide
/-- V-SEG SEG_u. -/
theorem test_segLowU : fieldOf (step (asked .segcode [0xA2])) (·.segChar) = some 0x75 := by decide
/-- V-SEG SEG_EQ. -/
theorem test_segEq : fieldOf (step (asked .segcode [0x30])) (·.segChar) = some 0x3D := by decide
/-- V-SEG-UNK: a lone middle bar is no minus. -/
theorem test_segUnknown_middle_bar : fieldOf (step (asked .segcode [0x10])) (·.segChar) = some 0x5F := by decide
/-- V-XMODE-walk. -/
theorem test_flagAuto : fieldOf (step (asked (.modestatus .auto) [0x01])) (fun t => (t.flags.get .auto, t.flags.get .rel)) = some (true, false) := by decide
/-- V-XMODE-walk. -/
theorem test_flagRel : fieldOf (step (asked (.modestatus .rel) [0x02])) (fun t => (t.flags.get .rel, t.flags.get .bat)) = some (true, false) := by decide
/-- V-XMODE-walk. -/
theorem test_flagBat : fieldOf (step (asked (.modestatus .bat) [0x04])) (fun t => (t.flags.get .bat, t.flags.get .ac)) = some (true, false) := by decide
/-- V-XMODE-walk. -/
theorem test_flagAc : fieldOf (step (asked (.modestatus .ac) [0x08])) (fun t => (t.flags.get .ac, t.flags.get .db)) = some (true, false) := by decide
/-- V-XMODE-walk. -/
theorem test_flagDb : fieldOf (step (asked (.modestatus .db) [0x10])) (fun t => (t.flags.get .db, t.flags.get .sto)) = some (true, false) := by decide
/-- V-XMODE-walk. -/
theorem test_flagSto : fieldOf (step (asked (.modestatus .sto) [0x20])) (fun t => (t.flags.get .sto, t.flags.get .rcl)) = some (true, false) := by decide
/-- V-XMODE-walk. -/
theorem test_flagRcl : fieldOf (step (asked (.modestatus .rcl) [0x40])) (fun t => (t.flags.get .rcl, t.flags.get .neg)) = some (true, false) := by decide
/-- V-XMODE-walk. -/
theorem test_flagNeg : fieldOf (step (asked (.modestatus .neg) [0x80])) (fun t => (t.flags.get .neg, t.flags.get .auto)) = some (true, false) := by decide
/-- V-XCAL [CFG0]. -/
theorem test_flagCal_cfg0 : fieldOf (step (asked .calflag [0xFF, 0xFF, 0xFF, 0xFF, 0xFF, 0xFF, 0xFF, 0xFF, 0xFF, 0xFF, 0xFF, 0xFF, 0xFF, 0xFF, 0xFF, 0xFF, 0xFF, 0xFF])) (·.cal) = some false := by decide
/-- R76 for the value; that the row alone yields it is log 27's choice. -/
theorem test_us2MergeField_6 : fieldOf (step (asked .unitstatus2 [0x06])) (·.mergeField) = some 0xC0 := by decide
/-- 42_merge.md, derived examples, column shifted (log 27). -/
theorem test_us2MergeField_FB : fieldOf (step (asked .unitstatus2 [0xFB])) (·.mergeField) = some 0x40 := by decide
/-- V-UNIT [CFG0]. -/
theorem test_unitKiloohm_ac0 : fieldOf (step (asked .mergedunits [0x90, 0, 0])) (·.unitStr) = some [0x6B, 0x4F, 0x20, 0x20, 0x20] := by decide
/-- V-UNIT [CFG0]. -/
theorem test_unitKiloohm_ac1 : fieldOf (step (asked .mergedunits [0x90, 1, 0])) (·.unitStr) = some [0x6B, 0x4F, 0x20, 0x20, 0x20] := by decide
/-- V-UNIT [CFG0]. -/
theorem test_unitMegaohm_ac0 : fieldOf (step (asked .mergedunits [0xA0, 0, 0])) (·.unitStr) = some [0x4D, 0x4F, 0x20, 0x20, 0x20] := by decide
/-- V-UNIT [CFG0]. -/
theorem test_unitMegaohm_ac1 : fieldOf (step (asked .mergedunits [0xA0, 1, 0])) (·.unitStr) = some [0x4D, 0x4F, 0x20, 0x20, 0x20] := by decide
/-- V-UNIT [CFG0]. -/
theorem test_unitOhm_ac0 : fieldOf (step (asked .mergedunits [0x80, 0, 0])) (·.unitStr) = some [0x20, 0x4F, 0x20, 0x20, 0x20] := by decide
/-- V-UNIT [CFG0]. -/
theorem test_unitOhm_ac1 : fieldOf (step (asked .mergedunits [0x80, 1, 0])) (·.unitStr) = some [0x20, 0x4F, 0x20, 0x20, 0x20] := by decide
/-- V-UNIT [CFG0]. -/
theorem test_unitMicroamp_ac0 : fieldOf (step (asked .mergedunits [0x44, 0, 0])) (·.unitStr) = some [0x75, 0x41, 0x20, 0x20, 0x20] := by decide
/-- V-UNIT [CFG0]. -/
theorem test_unitMicroamp_ac1 : fieldOf (step (asked .mergedunits [0x44, 1, 0])) (·.unitStr) = some [0x75, 0x41, 0x20, 0x41, 0x43] := by decide
/-- V-UNIT [CFG0]. -/
theorem test_unitMilliamp_ac0 : fieldOf (step (asked .mergedunits [0x48, 0, 0])) (·.unitStr) = some [0x6D, 0x41, 0x20, 0x20, 0x20] := by decide
/-- V-UNIT [CFG0]. -/
theorem test_unitMilliamp_ac1 : fieldOf (step (asked .mergedunits [0x48, 1, 0])) (·.unitStr) = some [0x6D, 0x41, 0x20, 0x41, 0x43] := by decide
/-- V-UNIT [CFG0]. -/
theorem test_unitAmp_ac0 : fieldOf (step (asked .mergedunits [0x40, 0, 0])) (·.unitStr) = some [0x20, 0x41, 0x20, 0x20, 0x20] := by decide
/-- V-UNIT [CFG0]. -/
theorem test_unitAmp_ac1 : fieldOf (step (asked .mergedunits [0x40, 1, 0])) (·.unitStr) = some [0x20, 0x41, 0x20, 0x41, 0x43] := by decide
/-- V-UNIT [CFG0]. -/
theorem test_unitMillivolt_ac0 : fieldOf (step (asked .mergedunits [0x03, 0, 0])) (·.unitStr) = some [0x6D, 0x56, 0x20, 0x20, 0x20] := by decide
/-- V-UNIT [CFG0]. -/
theorem test_unitMillivolt_ac1 : fieldOf (step (asked .mergedunits [0x03, 1, 0])) (·.unitStr) = some [0x6D, 0x56, 0x20, 0x41, 0x43] := by decide
/-- V-UNIT [CFG0]. -/
theorem test_unitVolt_ac0 : fieldOf (step (asked .mergedunits [0x01, 0, 0])) (·.unitStr) = some [0x20, 0x56, 0x20, 0x20, 0x20] := by decide
/-- V-UNIT [CFG0]. -/
theorem test_unitVolt_ac1 : fieldOf (step (asked .mergedunits [0x01, 1, 0])) (·.unitStr) = some [0x20, 0x56, 0x20, 0x41, 0x43] := by decide
/-- V-UNIT [CFG0]. -/
theorem test_unitNone_ac0 : fieldOf (step (asked .mergedunits [0x00, 0, 0])) (·.unitStr) = some [0x20, 0x20, 0x20, 0x20, 0x20] := by decide
/-- V-UNIT [CFG0]. -/
theorem test_unitNone_ac1 : fieldOf (step (asked .mergedunits [0x00, 1, 0])) (·.unitStr) = some [0x20, 0x20, 0x20, 0x20, 0x20] := by decide
/-- Program P1, the reading. -/
theorem test_reading_P1 : fieldOf (step (presented #v[0x00, 0x00, 0x00, 0x00, 0x00, 0x00, 0x00, 0x00, 0x01, 0x00, 0xC0, 0x7E, 0xF8, 0xD1, 0xB9, 0x01, 0x00, 0x00] false)) (·.reading) =
    some ⟨[0x41, 0x55, 0x54, 0x4F, 0x20, 0x20, 0x20, 0x20, 0x20, 0x20, 0x20, 0x20, 0x20, 0x20, 0x20], [0x20, 0x20, 0x31, 0x2E, 0x32, 0x33, 0x34, 0x35], [0x20, 0x56, 0x20, 0x20, 0x20]⟩ := by decide
/-- Program P1, the merged byte. -/
theorem test_merged_P1 : fieldOf (step (presented #v[0x00, 0x00, 0x00, 0x00, 0x00, 0x00, 0x00, 0x00, 0x01, 0x00, 0xC0, 0x7E, 0xF8, 0xD1, 0xB9, 0x01, 0x00, 0x00] false)) (·.merged) = some 0x01 := by decide
/-- Program P2, the reading. -/
theorem test_reading_P2 : fieldOf (step (presented #v[0xFF, 0xA5, 0x5A, 0x00, 0x12, 0x34, 0x56, 0x78, 0x8A, 0x00, 0xEB, 0xC4, 0xF9, 0xFB, 0xC8, 0x08, 0x02, 0xEE] false)) (·.reading) =
    some ⟨[0x20, 0x20, 0x20, 0x20, 0x20, 0x52, 0x45, 0x4C, 0x20, 0x20, 0x20, 0x20, 0x20, 0x20, 0x20], [0x2D, 0x20, 0x30, 0x2E, 0x31, 0x39, 0x38, 0x37], [0x6D, 0x41, 0x20, 0x41, 0x43]⟩ := by decide
/-- Program P2, the merged byte. -/
theorem test_merged_P2 : fieldOf (step (presented #v[0xFF, 0xA5, 0x5A, 0x00, 0x12, 0x34, 0x56, 0x78, 0x8A, 0x00, 0xEB, 0xC4, 0xF9, 0xFB, 0xC8, 0x08, 0x02, 0xEE] false)) (·.merged) = some 0x48 := by decide
/-- Program P3, the reading [U3]: the last cell, 0x63 from the digit byte 0x32, is expected pending hardware confirmation (log 17). -/
theorem test_reading_P3 : fieldOf (step (presented #v[0x00, 0x00, 0x00, 0x00, 0x00, 0x00, 0x00, 0x00, 0x65, 0x10, 0xEB, 0x7F, 0xAA, 0x00, 0x32, 0x3E, 0xF9, 0x00] false)) (·.reading) =
    some ⟨[0x41, 0x55, 0x54, 0x4F, 0x20, 0x20, 0x20, 0x20, 0x20, 0x20, 0x20, 0x20, 0x53, 0x54, 0x4F], [0x20, 0x5F, 0x30, 0x2E, 0x5F, 0x5F, 0x20, 0x63], [0x20, 0x20, 0x20, 0x20, 0x20]⟩ := by decide
/-- Program P3, the merged byte. -/
theorem test_merged_P3 : fieldOf (step (presented #v[0x00, 0x00, 0x00, 0x00, 0x00, 0x00, 0x00, 0x00, 0x65, 0x10, 0xEB, 0x7F, 0xAA, 0x00, 0x32, 0x3E, 0xF9, 0x00] false)) (·.merged) = some 0x3E := by decide
/-- Program P4, the reading. -/
theorem test_reading_P4 : fieldOf (step (presented #v[0x00, 0x00, 0x00, 0x00, 0x00, 0x00, 0x00, 0x00, 0x01, 0x00, 0xC0, 0xEB, 0xEF, 0xEB, 0xEB, 0x30, 0x04, 0x00] true)) (·.reading) =
    some ⟨[0x41, 0x55, 0x54, 0x4F, 0x20, 0x20, 0x20, 0x20, 0x20, 0x20, 0x20, 0x20, 0x20, 0x20, 0x20], [0x20, 0x20, 0x31, 0x30, 0x2E, 0x30, 0x30, 0x30], [0x6B, 0xF4, 0x20, 0x20, 0x20]⟩ := by decide
/-- Program P4, the merged byte. -/
theorem test_merged_P4 : fieldOf (step (presented #v[0x00, 0x00, 0x00, 0x00, 0x00, 0x00, 0x00, 0x00, 0x01, 0x00, 0xC0, 0xEB, 0xEF, 0xEB, 0xEB, 0x30, 0x04, 0x00] true)) (·.merged) = some 0xB0 := by decide
/-- Program P5, the reading. -/
theorem test_reading_P5 : fieldOf (step (presented #v[0x00, 0x00, 0x00, 0x00, 0x00, 0x00, 0x00, 0x00, 0x00, 0x00, 0x3B, 0x12, 0x12, 0x00, 0x00, 0x00, 0x00, 0x00] false)) (·.reading) =
    some ⟨[0x20, 0x20, 0x20, 0x20, 0x20, 0x20, 0x20, 0x20, 0x20, 0x20, 0x20, 0x20, 0x20, 0x20, 0x20], [0x20, 0x20, 0x20, 0x45, 0x72, 0x72, 0x20, 0x20], [0x20, 0x20, 0x20, 0x20, 0x20]⟩ := by decide
/-- Program P5, the merged byte. -/
theorem test_merged_P5 : fieldOf (step (presented #v[0x00, 0x00, 0x00, 0x00, 0x00, 0x00, 0x00, 0x00, 0x00, 0x00, 0x3B, 0x12, 0x12, 0x00, 0x00, 0x00, 0x00, 0x00] false)) (·.merged) = some 0x00 := by decide
/-- A buffer of 17 bytes is refused at the boundary (R26). -/
theorem test_present_short : refusalOf (State.reset.present (List.replicate 17 0) false) = some (.notAPacket 17) := by decide
/-- A presentation that is no instruction is refused by name. -/
theorem test_step_refuses : refusalOf (step (asked .xmode [])) = some (.notAnInput (.operandCount 1 0)) := by decide
theorem test_reset_inv : State.reset.Inv := by
  refine ⟨by decide, by decide, ⟨by decide, by decide, by decide⟩, ⟨by decide, by decide, by decide, by decide⟩, by decide, by decide, by decide,
    by decide, by decide, ?_, by decide⟩
  intro x hx; simp [State.reset] at hx

/-! ## Words of the table, as the host numbers them -/

theorem test_table_word_seg5 : decodeTableWord 8 0xB9 = some (.seg5 0xB9) := by decide
theorem test_table_word_flag_bat : decodeTableWord 8 0x04 = some (.flagBat 0x04) := by decide
theorem test_table_word_kiloohm : decodeTableWord 8 0x90 = some (.unitKiloohm 0x90 false false) := by decide
theorem test_table_word_packet : decodeTableWord 144 (0x01 * 2 ^ 64) = some (.decode #v[0x00, 0x00, 0x00, 0x00, 0x00, 0x00, 0x00, 0x00, 0x01, 0x00, 0x00, 0x00, 0x00, 0x00, 0x00, 0x00, 0x00, 0x00] false) := by decide
theorem test_table_word_format : decodeTableWord 32 0 = some (.format (List.replicate 15 0) (List.replicate 8 0) (List.replicate 5 0)) := by decide
theorem test_table_word_wide : decodeTableWord 24 0 = some (.decode (Vector.replicate 18 0) false) := by decide
theorem test_table_word_too_long : decodeTableWord 8 0x100 = none := by decide
theorem test_table_word_runs : fieldOf (step (State.reset.withFetchWord 8 0xB9)) (·.segChar) = some 0x35 := by decide

/-! ## Witnesses: a state and operands that meet the hypotheses of each statement -/

/-- The zero packet and the packets that differ from it in one role each. -/
def zeroPkt : Packet := Vector.replicate 18 0
def ignoredPkt : Packet := #v[1, 2, 3, 4, 5, 6, 7, 8, 0, 0, 0, 0, 0, 0, 0, 0, 0, 9]
def modePkt : Packet := #v[0, 0, 0, 0, 0, 0, 0, 0, 0xFF, 0, 0, 0, 0, 0, 0, 0, 0, 0]
def digitPkt : Packet := #v[0, 0, 0, 0, 0, 0, 0, 0, 0, 0xEF, 0, 0, 0, 0, 0xBD, 0, 0, 0]
def unitPkt : Packet := #v[0, 0, 0, 0, 0, 0, 0, 0, 0, 0, 0, 0, 0, 0, 0, 0xFF, 0xFF, 0]
def scenarioPkt : Packet := #v[0, 0, 0, 0, 0, 0, 0, 0, 0x01, 0xEB, 0xC0, 0x7A, 0xF8, 0xD1, 0xB9, 0, 0, 0]

theorem witness_reset_legal : State.reset.cfg.legal = true := by decide
/-- Another legal configuration: the flags in the other order, a selector that reads a roleless byte, a glyph of its own. -/
def cfg1 : Cfg :=
  { cfg0 with bitRel := 7, bitBat := 6, bitAc := 5, bitDb := 4, bitSto := 3, bitRcl := 2, bitNeg := 1,
              calSel := .node 17 0 (.leaf false) (.leaf true), segtab := (0x10, 0x7E) :: cfg0.segtab }
theorem witness_cfg1_legal : cfg1.legal = true := by decide
/-- FieldsSplitsThePacket: packets that agree on bytes 8 to 16 only. -/
theorem witness_fields : (∀ i : Fin 18, 8 ≤ i.val → i.val ≤ 16 → ignoredPkt[i] = zeroPkt[i]) ∧ ignoredPkt ≠ zeroPkt := by decide
/-- XcalAsksTheSelector, third clause. -/
theorem witness_xcal_cfg0 : State.reset.cfg = cfg0 := rfl
/-- XsegClearsBitTwoOnly: a key, 0xFB, is its own key. -/
theorem witness_xseg_key : (0xFB#8).getLsbD 2 = false := by decide
/-- ExtractionsAreIndependent: a pair of different packets for each clause, and both evaluations answer. -/
theorem witness_independent :
    (∀ i : Fin 18, i.val ≠ 8 → zeroPkt[i] = modePkt[i]) ∧ (∀ i : Fin 18, i.val < 9 ∨ 14 < i.val → zeroPkt[i] = digitPkt[i])
      ∧ (∀ i : Fin 18, i.val ≠ 15 ∧ i.val ≠ 16 → zeroPkt[i] = unitPkt[i]) ∧ modePkt ≠ zeroPkt ∧ digitPkt ≠ zeroPkt ∧ unitPkt ≠ zeroPkt := by
  decide
theorem witness_decode_answers (p : Packet) (r : Bit) : ∃ t, exec (.decode p r) State.reset = .next t := ⟨_, rfl⟩
/-- ModeStringIsFifteenCells. -/
theorem witness_mode_request : (asked .getmode [0xFF, bitByte true]).request = some ⟨.getmode, [0xFF, bitByte true]⟩ := rfl
/-- ModeStringHidesBatAcNeg: 0x00 and 0x8C differ in the bits of BAT, AC and NEG only. -/
theorem witness_mode_hides :
    (∀ f : Flag, f ≠ .bat → f ≠ .ac → f ≠ .neg → (0x00#8).getLsbD (cfg0.modeBit f) = (0x8C#8).getLsbD (cfg0.modeBit f))
      ∧ (∃ t, step (asked .getmode [0x00, bitByte false]) = .next t) ∧ ∃ t, step (asked .getmode [0x8C, bitByte false]) = .next t := by
  refine ⟨fun f h1 h2 h3 => ?_, ⟨_, rfl⟩, ⟨_, rfl⟩⟩
  cases f <;> first | decide | contradiction
/-- AutoAloneScenario. -/
theorem witness_auto_alone : State.reset.cfg.legal = true ∧ scenarioPkt[8] = 0x01 ∧ State.reset.cfg.calSel.eval scenarioPkt = false := by decide
/-- MergeIgnoresUnrelatedBits: packets that agree on bytes 15 and 16 only. -/
theorem witness_merge_ignores : scenarioPkt[15] = modePkt[15] ∧ scenarioPkt[16] = modePkt[16] ∧ scenarioPkt ≠ modePkt := by decide
/-- MergeLawsHold, monotone: operands bit by bit below others, at both ends. -/
theorem witness_merge_monotone : (0x00 : Byte) &&& 0xFF = 0x00 ∧ (0x06 : Byte) &&& 0x06 = 0x06 := by decide
/-- MergedByteRunsItsRow, FallbackExactlyWithoutABaseFlag: a byte with no base flag, all scale bits set. -/
theorem witness_merged_request : (asked .mergedunits [0x3E, bitByte true, bitByte false]).request =
    some ⟨.mergedunits, [0x3E, bitByte true, bitByte false]⟩ := rfl
theorem witness_fallback : (0x3E : Byte) &&& cfg0.uOhm = 0 ∧ (0x3E : Byte) &&& cfg0.uAmp = 0 ∧ (0x3E : Byte) &&& cfg0.uVolt = 0 := by decide
/-- UnitPrioritiesHold: Ohms over everything with every scale bit (0xFF), Amps over Volts with micro and milli (0x4D), Volts with
milli (0x03), and UNITDEC answers. -/
theorem witness_priorities :
    ((0xFF : Byte) &&& cfg0.uOhm ≠ 0 ∧ (0xFF : Byte) &&& cfg0.uKilo ≠ 0)
      ∧ ((0x4D : Byte) &&& cfg0.uOhm = 0 ∧ (0x4D : Byte) &&& cfg0.uAmp ≠ 0 ∧ (0x4D : Byte) &&& cfg0.uMicro ≠ 0)
      ∧ ((0x03 : Byte) &&& cfg0.uOhm = 0 ∧ (0x03 : Byte) &&& cfg0.uAmp = 0 ∧ (0x03 : Byte) &&& cfg0.uVolt ≠ 0 ∧ (0x03 : Byte) &&& cfg0.uMilliV ≠ 0) := by
  decide
/-- The strings of those three bytes: kΩ, μA, mV (R85, R82). -/
theorem witness_priorities_strings :
    fieldOf (exec (.unitdec 0xFF true false) State.reset) (·.unitStr) = some [0x6B, 0x4F, 0x20, 0x20, 0x20]
      ∧ fieldOf (exec (.unitdec 0x4D true false) State.reset) (·.unitStr) = some [0x75, 0x41, 0x20, 0x41, 0x43]
      ∧ fieldOf (exec (.unitdec 0x03 false false) State.reset) (·.unitStr) = some [0x6D, 0x56, 0x20, 0x20, 0x20] := by decide
/-- SelectorChangesOnlyGlyphCells: the Ω cell and the μ cell do change under CFG0. -/
theorem witness_selector_changes :
    fieldOf (exec (.unitdec 0x90 false false) State.reset) (·.unitStr) ≠ fieldOf (exec (.unitdec 0x90 false true) State.reset) (·.unitStr)
      ∧ fieldOf (exec (.unitdec 0x44 false false) State.reset) (·.unitStr) ≠ fieldOf (exec (.unitdec 0x44 false true) State.reset) (·.unitStr) := by
  decide
/-- SegdecLooksTheKeyUp, SentinelExactlyOffTheTable: a key of the table, a key off it, a byte with bit 2 set. -/
theorem witness_segdec : State.reset.cfg.segtab.contains (0xEB#8, asc '0') = true
    ∧ (State.reset.cfg.segtab.all fun row => row.1 != 0x10) = true ∧ (0xEF#8).getLsbD 2 = true := by decide
theorem witness_segdec_off (ch : Cell) : (0x10#8, ch) ∉ State.reset.cfg.segtab := fun h => by
  simpa using List.all_eq_true.1 witness_segdec.2.1 _ h
/-- SourceRowsShow, DigitByteRunsItsRow: the first and the last source row, with and without the point. The last, 0x32, is the guess of
the source [U3], expected pending hardware confirmation (log 17). -/
theorem witness_source_row : (asked .segcode [0x04]).request = some ⟨.segcode, [0x04]⟩ ∧ (0x04 : Byte) = 0x00 ||| 0x04
    ∧ (asked .segcode [0x32]).request = some ⟨.segcode, [0x32]⟩ := by decide
/-- A glyph that another legal table adds is shown by its digit byte. -/
theorem witness_added_glyph : fieldOf (step { asked .segcode [0x14] with cfg := cfg1 }) (·.segChar) = some 0x7E := by decide
/-- SignCharacterFollowsNeg. -/
theorem witness_sign_request : (asked .signch [0x8A]).request = some ⟨.signch, [0x8A]⟩ := rfl
/-- WidthCompensationStandsFirst: no point, and a point on the last digit. -/
theorem witness_compensation : (∀ k : Fin 6, (scenarioPkt[9 + k.val]'(by omega)).getLsbD 2 = false)
    ∧ (digitPkt[9 + 5]).getLsbD 2 = true ∧ ∃ t, exec (.digits digitPkt true) State.reset = .next t := by
  exact ⟨by decide, by decide, _, exec_digits ..⟩
/-- DigitStringLength: no, one, two and six points. -/
theorem witness_lengths :
    fieldOf (exec (.digits scenarioPkt false) State.reset) (·.digitStr.length) = some 8
      ∧ fieldOf (exec (.digits #v[0, 0, 0, 0, 0, 0, 0, 0, 0, 4, 0, 0, 0, 0, 0, 0, 0, 0] false) State.reset) (·.digitStr.length) = some 8
      ∧ fieldOf (exec (.digits digitPkt false) State.reset) (·.digitStr.length) = some 9
      ∧ fieldOf (exec (.digits (Vector.replicate 18 0xFF) false) State.reset) (·.digitStr.length) = some 13 := by decide
/-- DigitScenario. -/
theorem witness_scenario : scenarioPkt[8].getLsbD State.reset.cfg.bitNeg = false ∧ scenarioPkt[9] = 0xEB ∧ scenarioPkt[10] = 0xC0
    ∧ scenarioPkt[11] = 0x7A ∧ scenarioPkt[12] = 0xF8 ∧ scenarioPkt[13] = 0xD1 ∧ scenarioPkt[14] = 0xB9 := by decide
/-- DigitStringAlphabet, second clause: no row of CFG0's table is a minus. -/
theorem witness_no_minus (k : Byte) : (k, asc '-') ∉ State.reset.cfg.segtab := fun hm => by
  have h : (State.reset.cfg.segtab.all fun row => row.2 != asc '-') = true := by decide
  simpa using List.all_eq_true.1 h _ hm
/-- StripRemovesTheLongestPrefix: a string that keeps a cell (the head clause is not empty). -/
theorem witness_strip_head : (stripCells (str [' ', '-', '1', ' '])).head? = some (asc '1') := by decide
/-- StripForgetsTheSign: packets with the same digits and the other sign. -/
theorem witness_strip_sign : (∀ i : Fin 18, 9 ≤ i.val → i.val ≤ 14 → zeroPkt[i] = modePkt[i])
    ∧ (modePkt[8]).getLsbD State.reset.cfg.bitNeg = true ∧ (zeroPkt[8]).getLsbD State.reset.cfg.bitNeg = false := by decide
/-- OutputsDependOnTheirInputsOnly: different packets that agree in what each string reads. -/
theorem witness_outputs :
    (∀ f : Flag, zeroPkt[8].getLsbD (cfg0.modeBit f) = unitPkt[8].getLsbD (cfg0.modeBit f)) ∧ cfg0.calSel.eval zeroPkt = cfg0.calSel.eval unitPkt
      ∧ zeroPkt[15] = digitPkt[15] ∧ zeroPkt[16].getLsbD 1 = digitPkt[16].getLsbD 1 ∧ zeroPkt[16].getLsbD 2 = digitPkt[16].getLsbD 2
      ∧ (∀ i : Fin 18, 9 ≤ i.val → i.val ≤ 14 → zeroPkt[i] = unitPkt[i]) := by
  refine ⟨fun f => ?_, by decide, by decide, by decide, by decide, by decide⟩
  cases f <;> decide
/-- OutputWidths, StepRunsTheDecodedInstruction third clause: nothing presented alone. -/
theorem witness_whole_block : (presented scenarioPkt true).request = none := rfl
/-- InputsAreNeverWritten, SecondStepChangesNothing: an instruction, and a step, that answer. -/
theorem witness_step_answers : ∃ t, step (asked .xseg [0xFF]) = .next t := ⟨_, rfl⟩
/-- EveryLegalInputIsEvaluated, DecodeOfEncode: a well-formed instruction with a check, presented by its encoding. -/
theorem witness_encoded : Instr.wf cfg0 (.segEq 0x34) = true ∧ (asked .segcode [0x34]).request = some (encode cfg0 (.segEq 0x34)) := by decide
/-- OnlyEighteenBytesAreAPacket: 18 bytes, and both neighbours. -/
theorem witness_buffers : (List.replicate 18 (0xFF : Byte)).length = 18 ∧ (List.replicate 17 (0 : Byte)).length ≠ 18
    ∧ (List.replicate 19 (0 : Byte)).length ≠ 18 := by decide
/-- StepRunsTheDecodedInstruction, first and second clause. -/
theorem witness_step_decodes : (asked .xseg [0xFF]).request = some ⟨.xseg, [0xFF]⟩ ∧ decode cfg0 ⟨.xseg, [0xFF]⟩ = .ok (.xseg 0xFF) := ⟨rfl, rfl⟩
theorem witness_step_rejects : (asked .xseg []).request = some ⟨.xseg, []⟩ ∧ decode cfg0 ⟨.xseg, []⟩ = .error (.operandCount 1 0) := ⟨rfl, rfl⟩
/-- StepKeepsTheInvariant: a state with the invariant whose step answers and changes it. -/
theorem witness_inv_step : (asked .signch [0x80]).Inv ∧ fieldOf (step (asked .signch [0x80])) (·.signChar) = some 0x2D :=
  ⟨test_reset_inv, by decide⟩
/-- EvaluationsDoNotInteract: two states that differ in their result lines and present the same. -/
theorem witness_interact : State.reset.cfg = ({ State.reset with signChar := 0x2D, merged := 0xFF } : State).cfg
    ∧ fetch State.reset = fetch { State.reset with signChar := 0x2D, merged := 0xFF }
    ∧ State.reset ≠ { State.reset with signChar := 0x2D, merged := 0xFF }
    ∧ (∃ t, step State.reset = .next t) ∧ ∃ v, step { State.reset with signChar := 0x2D, merged := 0xFF } = .next v :=
  ⟨rfl, rfl, by decide, ⟨_, rfl⟩, ⟨_, rfl⟩⟩
/-- TableWordIsWhatStepRuns. -/
theorem witness_table_word : decodeTableWord 8 0xFB = some (.seg8 0xFB) := by decide

end Sys2Proof.Machine
end

section
/-! The result lines (spec/10_state.md R10, R29, log 4). Every instruction overwrites some of them with values that depend on the
configuration and the instruction alone, so it acts as a fixed `LineWrites`: nothing is read back. -/

namespace Sys2Proof.Machine

/-- What an evaluation writes: for each result line the value written, or `none` where the line stays. -/
structure LineWrites where
  ms : Option Byte := none
  d : Option (Vector Byte 6) := none
  us1 : Option Byte := none
  us2 : Option Byte := none
  flags : Flag → Option Bit := fun _ => none
  cal : Option Bit := none
  xdp : Option Bit := none
  xseg : Option Byte := none
  modeStr : Option (List Cell) := none
  mergeField : Option Byte := none
  merged : Option Byte := none
  unitStr : Option (List Cell) := none
  segChar : Option Cell := none
  signChar : Option Cell := none
  dp : Option (Vector Bit 6) := none
  key : Option (Vector Byte 6) := none
  dpFound : Option Bit := none
  digitStr : Option (List Cell) := none
  reading : Option DecodedReading := none
  stripped : Option (List Cell) := none

/-- The flags after the writes to the eight flag lines. -/
def writeFlags (fl : ModeFlags) (o : Flag → Option Bit) : ModeFlags where
  auto := (o .auto).getD fl.auto
  rel := (o .rel).getD fl.rel
  bat := (o .bat).getD fl.bat
  ac := (o .ac).getD fl.ac
  db := (o .db).getD fl.db
  sto := (o .sto).getD fl.sto
  rcl := (o .rcl).getD fl.rcl
  neg := (o .neg).getD fl.neg

/-- The state after the writes; the inputs and the configuration stay. -/
def State.write (s : State) (w : LineWrites) : State :=
  { s with
    ms := w.ms.getD s.ms, d := w.d.getD s.d, us1 := w.us1.getD s.us1, us2 := w.us2.getD s.us2,
    flags := writeFlags s.flags w.flags, cal := w.cal.getD s.cal, xdp := w.xdp.getD s.xdp, xseg := w.xseg.getD s.xseg,
    modeStr := w.modeStr.getD s.modeStr, mergeField := w.mergeField.getD s.mergeField, merged := w.merged.getD s.merged,
    unitStr := w.unitStr.getD s.unitStr, segChar := w.segChar.getD s.segChar, signChar := w.signChar.getD s.signChar,
    dp := w.dp.getD s.dp, key := w.key.getD s.key, dpFound := w.dpFound.getD s.dpFound,
    digitStr := w.digitStr.getD s.digitStr, reading := w.reading.getD s.reading, stripped := w.stripped.getD s.stripped }

@[simp] theorem State.write_flags_get (s : State) (w : LineWrites) (f : Flag) :
    (s.write w).flags.get f = (w.flags f).getD (s.flags.get f) := by
  cases f <;> rfl

@[simp] theorem State.write_cfg (s : State) (w : LineWrites) : (s.write w).cfg = s.cfg := rfl

@[simp] theorem fetch_write (s : State) (w : LineWrites) : fetch (s.write w) = fetch s := rfl

/-- A write gives the same value over any two old ones, or it is none and leaves both. -/
theorem getD_eq_or_kept {α : Type} (o : Option α) (a b : α) : o.getD a = o.getD b ∨ (o.getD a = a ∧ o.getD b = b) := by
  cases o with
  | none => exact .inr ⟨rfl, rfl⟩
  | some _ => exact .inl rfl

theorem getD_getD_self {α : Type} (o : Option α) (a : α) : o.getD (o.getD a) = o.getD a := by
  cases o <;> rfl

/-- The same writes a second time change nothing. -/
theorem State.write_write (s : State) (w : LineWrites) : (s.write w).write w = s.write w := by
  simp only [State.write, writeFlags, getD_getD_self]

/-- An instruction acts by writes that the configuration alone determines: it reads no result line. -/
def ActsByWrites (i : Instr) : Prop :=
  ∀ c : Cfg, ∃ w : LineWrites, ∀ s : State, s.cfg = c → exec i s = .next (s.write w)

theorem actsByWrites_of_setSegChar {i : Instr} {ch : Cell} (h : ∀ s, exec i s = .next (s.setSegChar ch)) : ActsByWrites i :=
  fun _ => ⟨{ segChar := some ch }, fun s _ => h s⟩

theorem actsByWrites_of_setCal {i : Instr} {p : Packet} (h : ∀ s, exec i s = .next (s.setCal (calOf s.cfg p))) : ActsByWrites i :=
  fun c => ⟨{ cal := some (calOf c p) }, by rintro s rfl; exact h s⟩

theorem actsByWrites_of_evalUnitRow {i : Instr} {row : UnitRow} {ac r : Bit}
    (h : ∀ s, exec i s = .next (s.evalUnitRow row ac r)) : ActsByWrites i :=
  fun c => ⟨{ unitStr := some (unitRowCells c row ac r) }, by rintro s rfl; exact h s⟩

/-- A MODESTATUS row writes its own flag line and no other (log 4). -/
theorem actsByWrites_of_evalFlag {i : Instr} {f : Flag} {ms : Byte} (h : ∀ s, exec i s = .next (s.evalFlag f ms)) :
    ActsByWrites i := by
  refine fun c => ⟨{ flags := fun g => if g = f then some (flagBit c ms f) else none }, ?_⟩
  rintro s rfl
  rw [h s]
  cases f <;> rfl

/-- The lines DECODE writes, at the values `t` holds in them (spec/46_format.md R113). -/
def decodeLines (t : State) : LineWrites where
  ms := t.ms
  d := t.d
  us1 := t.us1
  us2 := t.us2
  flags := fun f => t.flags.get f
  cal := t.cal
  merged := t.merged
  modeStr := t.modeStr
  unitStr := t.unitStr
  dp := t.dp
  key := t.key
  dpFound := t.dpFound
  digitStr := t.digitStr
  reading := t.reading

/-- DECODE's values are the same from every state with the same configuration. -/
theorem decodeLines_evalDecode {s u : State} (h : s.cfg = u.cfg) (p : Packet) (r : Bit) :
    decodeLines (evalDecode s p r) = decodeLines (evalDecode u p r) := by
  simp only [decodeLines, evalDecode, h]

theorem evalDecode_eq_write (s : State) (p : Packet) (r : Bit) :
    evalDecode s p r = s.write (decodeLines (evalDecode s p r)) := rfl

theorem actsByWrites_decode (p : Packet) (r : Bit) : ActsByWrites (.decode p r) := by
  refine fun c => ⟨decodeLines (evalDecode { State.reset with cfg := c } p r), fun s hc => ?_⟩
  rw [exec_decode, evalDecode_eq_write s, decodeLines_evalDecode (u := { State.reset with cfg := c }) hc]

/-- No instruction reads a result line (spec/10_state.md R10). -/
theorem actsByWrites (i : Instr) : ActsByWrites i := by
  cases i with
  | fields p =>
    exact fun _ => ⟨{ ms := pktMs p, d := pktDigits p, us1 := pktUs1 p, us2 := pktUs2 p }, fun _ _ => rfl⟩
  | xmode ms => exact fun c => ⟨{ flags := fun f => (xmodeOf c ms).get f }, by rintro s rfl; rfl⟩
  | xcal | flagCal => exact actsByWrites_of_setCal fun _ => rfl
  | xdp b => exact fun _ => ⟨{ xdp := dpBit b }, fun _ _ => rfl⟩
  | xseg b => exact fun _ => ⟨{ xseg := segKey b }, fun _ _ => rfl⟩
  | getmode a r d x l k => exact fun _ => ⟨{ modeStr := getmodeCells a r d x l k }, fun _ _ => rfl⟩
  | merge a b => exact fun _ => ⟨{ merged := mergeBytes a b }, fun _ _ => rfl⟩
  | unitdec m ac r => exact fun c => ⟨{ unitStr := unitdecOf c m ac r }, by rintro s rfl; rfl⟩
  | segdec k => exact fun c => ⟨{ segChar := segdecOf c k }, by rintro s rfl; rfl⟩
  | signch n => exact fun _ => ⟨{ signChar := signCell n }, fun _ _ => rfl⟩
  | digits p r =>
    refine fun c => ⟨{
      dp := pktPoints p, key := pktKeys p, digitStr := digitsOf c p r
      dpFound := (digitWalk c (flagBit c (pktMs p) .neg) (pktDigits p)).found }, ?_⟩
    rintro s rfl; rfl
  | format m g u => exact fun _ => ⟨{ reading := some ⟨m, g, u⟩ }, fun _ _ => rfl⟩
  | strip g => exact fun _ => ⟨{ stripped := stripCells g }, fun _ _ => rfl⟩
  | decode p r => exact actsByWrites_decode p r
  | us2MergeField u => exact fun _ => ⟨{ mergeField := us2Field u }, fun _ _ => rfl⟩
  | flagAuto | flagRel | flagBat | flagAc | flagDb | flagSto | flagRcl | flagNeg =>
    exact actsByWrites_of_evalFlag fun _ => rfl
  | unitKiloohm | unitMegaohm | unitOhm | unitMicroamp | unitMilliamp | unitAmp | unitMillivolt | unitVolt | unitNone =>
    exact actsByWrites_of_evalUnitRow fun _ => rfl
  | segBlank | seg0 | seg1 | seg2 | seg3 | seg4 | seg5 | seg6 | seg7 | seg8 | seg9 | segCapA | segCapC | segCapE | segCapH
  | segCapL | segLowC | segLowN | segLowO | segLowR | segLowT | segLowU | segEq | segUnknown =>
    exact actsByWrites_of_setSegChar fun _ => rfl

/-- A step that answers makes the same writes at every state with the same configuration and presentation. -/
theorem step_next_write {s t : State} (h : step s = .next t) :
    ∃ w : LineWrites, t = s.write w ∧ ∀ u : State, u.cfg = s.cfg → fetch u = fetch s → step u = .next (u.write w) := by
  obtain ⟨i, hd, hx⟩ := step_next h
  obtain ⟨w, hw⟩ := actsByWrites i s.cfg
  refine ⟨w, ?_, fun u hc hf => ?_⟩
  · rw [hw s rfl] at hx
    exact (Host.Outcome.next.inj hx).symm
  · rw [step, hc, hf, hd]
    exact hw u hc

/-- With the whole block evaluated at both, two states with the same configuration and presentation evaluate DECODE on the same packet
and selector. -/
theorem step_of_none_same_inputs {s u t v : State} (hc : s.cfg = u.cfg) (hf : fetch s = fetch u) (ht : step s = .next t)
    (hv : step u = .next v) (hs : s.request = none) (hu : u.request = none) :
    ∃ p r, t = evalDecode s p r ∧ v = evalDecode u p r := by
  have hd := decode_fetch_none hs
  rw [hc, hf, decode_fetch_none hu] at hd
  obtain ⟨hp, hr⟩ := Instr.decode.inj (Except.ok.inj hd)
  rw [step_of_none hs] at ht
  rw [step_of_none hu, hp, hr] at hv
  exact ⟨_, _, (Host.Outcome.next.inj ht).symm, (Host.Outcome.next.inj hv).symm⟩

/-- Settles O56: both steps make the same writes (`step_next_write`), so each line is written alike or kept in both; for the whole block
both are DECODE of one packet and selector, which reads nothing else but the configuration. -/
theorem evaluationsDoNotInteract : Obligations.EvaluationsDoNotInteract := by
  intro s u t v hc hf ht hv same
  constructor
  · obtain ⟨w, rfl, hw⟩ := step_next_write ht
    obtain rfl : u.write w = v := Host.Outcome.next.inj ((hw u hc.symm hf.symm).symm.trans hv)
    have flag (f : Flag) : same fun x => x.flags.get f := by
      simp only [same, State.write_flags_get]
      exact getD_eq_or_kept (w.flags f) _ _
    exact ⟨getD_eq_or_kept w.ms _ _, getD_eq_or_kept w.d _ _, getD_eq_or_kept w.us1 _ _, getD_eq_or_kept w.us2 _ _, flag,
      getD_eq_or_kept w.cal _ _, getD_eq_or_kept w.xdp _ _, getD_eq_or_kept w.xseg _ _, getD_eq_or_kept w.modeStr _ _,
      getD_eq_or_kept w.mergeField _ _, getD_eq_or_kept w.merged _ _, getD_eq_or_kept w.unitStr _ _,
      getD_eq_or_kept w.segChar _ _, getD_eq_or_kept w.signChar _ _, getD_eq_or_kept w.dp _ _, getD_eq_or_kept w.key _ _,
      getD_eq_or_kept w.dpFound _ _, getD_eq_or_kept w.digitStr _ _, getD_eq_or_kept w.reading _ _,
      getD_eq_or_kept w.stripped _ _⟩
  · intro hs hu
    obtain ⟨p, r, rfl, rfl⟩ := step_of_none_same_inputs hc hf ht hv hs hu
    simp only [evalDecode, hc, and_self]

/-- Settles O57: the first step leaves the inputs, so the second makes the same writes, and they change nothing. -/
theorem secondStepChangesNothing : Obligations.SecondStepChangesNothing := by
  intro s t h
  obtain ⟨w, rfl, hw⟩ := step_next_write h
  rw [hw _ (State.write_cfg s w) (fetch_write s w), State.write_write]

end Sys2Proof.Machine
end

section
/-! The inputs (spec/20_memory.md R25): an instruction that answers has written result lines (`LineWrites`), and the packet memory, the
configuration, the selector and the presentation are no such lines. -/

namespace Sys2Proof.Machine

@[simp] theorem State.write_mem (s : State) (w : LineWrites) : (s.write w).mem = s.mem := rfl
@[simp] theorem State.write_rsel (s : State) (w : LineWrites) : (s.write w).rsel = s.rsel := rfl
@[simp] theorem State.write_request (s : State) (w : LineWrites) : (s.write w).request = s.request := rfl

/-- The state an instruction answers is the one before it with result lines written. -/
theorem exec_next_write {i : Instr} {s t : State} (h : exec i s = .next t) : ∃ w : LineWrites, t = s.write w := by
  obtain ⟨w, hw⟩ := actsByWrites i s.cfg
  exact ⟨w, Host.Outcome.next.inj (h.symm.trans (hw s rfl))⟩

/-- Settles O47: whatever the instruction, it only writes result lines (`exec_next_write`), and a write of lines leaves every input. -/
theorem inputsAreNeverWritten : Obligations.InputsAreNeverWritten := by
  intro i s t h
  obtain ⟨w, rfl⟩ := exec_next_write h
  exact ⟨fun a => congrArg (Memory.readByte · a) (s.write_mem w), s.write_mem w, s.write_cfg w, s.write_rsel w, s.write_request w⟩

end Sys2Proof.Machine
end

section
/-! The data rows read through the decoder (spec/30_encoding.md R44): the row that a merged-units byte or a digit byte selects answers
what the operation on that byte answers, under every configuration. -/

namespace Sys2Proof.Machine

/-- Whichever of the nine MERGEDUNITS rows a byte selects, it writes the string of its line of the decision list (spec/43_unit.md R82). -/
theorem exec_decodeMergedunits (s : State) (c : Cfg) (m : Byte) (ac r : Bit) :
    exec (decodeMergedunits c m ac r) s = .next (s.evalUnitRow (unitRowOf c m) ac r) := by
  unfold decodeMergedunits
  cases unitRowOf c m <;> rfl

/-- A digit byte shows its key's character: a table row shows the character it was selected by, and without a table row both sides
show the sentinel (spec/44_segment.md R90, R91). -/
theorem exec_decodeSegcode (s : State) (b : Byte) :
    exec (decodeSegcode s.cfg b) s = .next (s.setSegChar (segdecOf s.cfg (segKey b))) := by
  unfold decodeSegcode
  cases h : segLookup s.cfg (segKey b) with
  | some ch =>
    have hch : segdecOf s.cfg (segKey b) = ch := by rw [segdecOf, h, Option.getD_some]
    rw [hch]
    exact exec_segRowOf hch
  | none => rw [exec_segUnknown, segdecOf, h, Option.getD_none]

/-- Settles O19: the presentation decodes to the row the decision list selects, and that row writes UNITDEC's string. -/
theorem mergedByteRunsItsRow : Obligations.MergedByteRunsItsRow := by
  intro s m ac r h
  calc step s = exec (decodeMergedunits s.cfg m ac r) s := step_of_request h (takeByteBits_bytes m ac r _)
    _ = .next (s.evalUnitRow (unitRowOf s.cfg m) ac r) := exec_decodeMergedunits s s.cfg m ac r
    _ = exec (.unitdec m ac r) s := rfl

/-- Settles O29: the presentation decodes to the row of the byte's character, the sentinel's row, or SEGDEC itself for an added glyph
(log 9), and each shows what SEGDEC shows for the key. -/
theorem digitByteRunsItsRow : Obligations.DigitByteRunsItsRow := by
  intro s b h
  calc step s = exec (decodeSegcode s.cfg b) s := step_of_request h rfl
    _ = .next (s.setSegChar (segdecOf s.cfg (segKey b))) := exec_decodeSegcode s b
    _ = exec (.segdec (b &&& 0xFB)) s := rfl

end Sys2Proof.Machine
end

section
/-! The mode flags (spec/40_extract.md R51, R52): a flag is read at its configured bit, and a legal configuration gives the eight flags
eight different bits, so that a byte can be written for every combination of them. -/

namespace Sys2Proof

/-- The eight flags in the order of spec/40_extract.md R51. -/
def allFlags : List Flag := [.auto, .rel, .bat, .ac, .db, .sto, .rcl, .neg]

theorem mem_allFlags (f : Flag) : f ∈ allFlags := by cases f <;> decide

@[simp] theorem xmodeOf_get (c : Cfg) (ms : Byte) (f : Flag) : (xmodeOf c ms).get f = flagBit c ms f := by cases f <;> rfl

theorem ModeFlags.eq_of_get_eq {a b : ModeFlags} (h : ∀ f, a.get f = b.get f) : a = b := by
  cases a
  cases b
  rw [ModeFlags.mk.injEq]
  exact ⟨h .auto, h .rel, h .bat, h .ac, h .db, h .sto, h .rcl, h .neg⟩

theorem Cfg.modeBitsLegal_of_legal {c : Cfg} (h : c.legal = true) : c.modeBitsLegal = true := by
  simp only [Cfg.legal, Bool.and_eq_true] at h
  obtain ⟨⟨hbits, _⟩, _⟩ := h
  exact hbits

/-- The legality check of the mode bits says that no two flags share one. -/
theorem Cfg.modeBit_inj {c : Cfg} (h : c.legal = true) {f g : Flag} : c.modeBit f = c.modeBit g ↔ f = g := by
  have hnd : (allFlags.map c.modeBit).Nodup := of_decide_eq_true (Cfg.modeBitsLegal_of_legal h)
  exact ⟨fun e => List.inj_on_of_nodup_map hnd (mem_allFlags f) (mem_allFlags g) e, congrArg _⟩

@[simp] theorem flagBit_zero (c : Cfg) (f : Flag) : flagBit c 0x00 f = false := BitVec.getLsbD_zero

@[simp] theorem flagBit_ff (c : Cfg) (f : Flag) : flagBit c 0xFF f = true := by
  have h : (0xFF : Byte) = BitVec.allOnes 8 := rfl
  rw [flagBit, h, BitVec.getLsbD_allOnes, decide_eq_true (c.modeBit f).isLt]

/-- The mode-status byte that holds a combination of flags: a bit is 1 when a flag read there is set. -/
def msOfFlags (c : Cfg) (fl : ModeFlags) : Byte :=
  BitVec.ofFnLE fun i => allFlags.any fun f => decide (c.modeBit f = i) && fl.get f

/-- Under a legal configuration no other flag is read at the same bit, so each flag is read back. -/
theorem flagBit_msOfFlags {c : Cfg} (h : c.legal = true) (fl : ModeFlags) (f : Flag) : flagBit c (msOfFlags c fl) f = fl.get f := by
  have hbit : flagBit c (msOfFlags c fl) f = allFlags.any fun g => decide (g = f) && fl.get g := by
    simp [flagBit, msOfFlags, Cfg.modeBit_inj h]
  rw [hbit, Bool.eq_iff_iff]
  simp [mem_allFlags]

theorem xmodeOf_msOfFlags {c : Cfg} (h : c.legal = true) (fl : ModeFlags) : xmodeOf c (msOfFlags c fl) = fl :=
  ModeFlags.eq_of_get_eq fun f => by rw [xmodeOf_get, flagBit_msOfFlags h]

/-- Flipping one bit permutes the bytes. -/
theorem perm_bytes_flip {i : Nat} (hi : i < 8) : ((List.range 256).map (· ^^^ 2 ^ i)).Perm (List.range 256) := by
  have hlt {n : Nat} (h : n < 256) : n ^^^ 2 ^ i < 256 :=
    Nat.xor_lt_two_pow (n := 8) h (Nat.pow_lt_pow_right (by decide) hi)
  refine (List.perm_ext_iff_of_nodup (List.nodup_range.map Nat.xor_left_injective) List.nodup_range).2 fun n => ?_
  simp only [List.mem_map, List.mem_range]
  constructor
  · rintro ⟨m, hm, rfl⟩
    exact hlt hm
  · exact fun h => ⟨n ^^^ 2 ^ i, hlt h, Nat.xor_xor_cancel_right n _⟩

/-- Half of the bytes have a given bit set: flipping it permutes the bytes, so as many have it set as have it clear. -/
theorem countP_getLsbD_bytes {i : Nat} (hi : i < 8) :
    (List.range 256).countP (fun n => (BitVec.ofNat 8 n).getLsbD i) = 128 := by
  have hflip : (List.range 256).countP (fun n => (BitVec.ofNat 8 n).getLsbD i)
      = (List.range 256).countP (fun n => decide ¬(BitVec.ofNat 8 n).getLsbD i = true) := by
    rw [← (perm_bytes_flip hi).countP_eq, List.countP_map]
    refine List.countP_congr fun n _ => ?_
    simp only [Function.comp_apply, BitVec.getLsbD_ofNat, hi, Nat.testBit_xor, Nat.testBit_two_pow_self]
    simp
  have htotal := List.length_eq_countP_add_countP (fun n => (BitVec.ofNat 8 n).getLsbD i) (l := List.range 256)
  rw [← hflip, List.length_range] at htotal
  omega

namespace Machine

/-- Settles O2: the flags are `flagBit` of the byte, and `msOfFlags` is the byte that gives a combination of flags. -/
theorem xmodeReadsEveryFlag : Obligations.XmodeReadsEveryFlag := by
  intro s
  refine ⟨fun ms => ⟨_, exec_xmode s ms, rfl, fun f => ?_, ?_, ?_⟩, fun h fl => ⟨msOfFlags s.cfg fl, ?_⟩⟩
  · rw [State.setFlags_flags, xmodeOf_get, flagBit]
  · rintro rfl f
    rw [State.setFlags_flags, xmodeOf_get, flagBit_zero]
  · rintro rfl f
    rw [State.setFlags_flags, xmodeOf_get, flagBit_ff]
  · rw [exec_xmode, xmodeOf_msOfFlags h, State.setFlags]

/-- Settles O3: AUTO is bit 0 by definition, no other flag of a legal configuration is, and NEG is one bit, which half of the bytes
have set. -/
theorem autoIsBitZeroAndNegSplitsTheBytes : Obligations.AutoIsBitZeroAndNegSplitsTheBytes := by
  refine fun c => ⟨fun _ => rfl, fun h f => ?_, countP_getLsbD_bytes c.bitNeg.isLt⟩
  have hauto : (c.modeBit f).val = 0 ↔ f = .auto := Fin.val_eq_zero_iff.trans (Cfg.modeBit_inj h (g := .auto))
  rw [flagBit, show (0x01 : Byte) = 1#8 from rfl, BitVec.getLsbD_one]
  simp [hauto]

/-- Settles O45: each row writes one flag line, at the bit its flag is read at. -/
theorem flagRowsSetTheirFlag : Obligations.FlagRowsSetTheirFlag := fun s ms =>
  ⟨exec_flagAuto s ms, exec_flagRel s ms, exec_flagBat s ms, exec_flagAc s ms, exec_flagDb s ms, exec_flagSto s ms,
    exec_flagRcl s ms, exec_flagNeg s ms⟩

/-- Flag rows one after the other write the flags only, one after the other. -/
theorem foldl_evalFlag (s : State) (ms : Byte) (fs : List Flag) (fl : ModeFlags) :
    fs.foldl (fun t f => t.evalFlag f ms) (s.setFlags fl) = s.setFlags (fs.foldl (fun a f => a.set f (flagBit s.cfg ms f)) fl) := by
  induction fs generalizing fl with
  | nil => rfl
  | cons f fs ih => exact ih (fl.set f (flagBit s.cfg ms f))

/-- All eight rows leave nothing of the old flags. -/
theorem foldl_evalFlag_allFlags (s : State) (ms : Byte) :
    allFlags.foldl (fun t f => t.evalFlag f ms) s = s.setFlags (xmodeOf s.cfg ms) := foldl_evalFlag s ms allFlags s.flags

/-- Settles O46: the eight rows write the eight flag lines (`foldl_evalFlag_allFlags`). -/
theorem eightFlagRowsAreXmode : Obligations.EightFlagRowsAreXmode := fun s ms =>
  ⟨_, _, _, _, _, _, _, _, exec_flagAuto _ ms, exec_flagRel _ ms, exec_flagBat _ ms, exec_flagAc _ ms, exec_flagDb _ ms,
    exec_flagSto _ ms, exec_flagRcl _ ms, exec_flagNeg _ ms, (exec_xmode s ms).trans (congrArg _ (foldl_evalFlag_allFlags s ms).symm)⟩

end Machine

end Sys2Proof
end

section
/-! The packet's fields and the two parts of a digit byte (spec/40_extract.md R50, R53 to R56): the point bit and the key of each of the
six digit bytes, and which packet bytes each extraction reads. -/

namespace Sys2Proof

theorem pktDigits_getElem (p : Packet) (k : Fin 6) : (pktDigits p)[k] = p[9 + k.val]'(by omega) := by
  fin_cases k <;> rfl

theorem pktPoints_eq_map (p : Packet) : pktPoints p = (pktDigits p).map dpBit := by simp [pktPoints, pktDigits]

theorem pktKeys_eq_map (p : Packet) : pktKeys p = (pktDigits p).map segKey := by simp [pktKeys, pktDigits]

theorem pktPoints_getElem (p : Packet) (k : Fin 6) : (pktPoints p)[k] = dpBit (p[9 + k.val]'(by omega)) := by
  rw [← pktDigits_getElem, pktPoints_eq_map]
  exact Vector.getElem_map dpBit k.isLt

theorem pktKeys_getElem (p : Packet) (k : Fin 6) : (pktKeys p)[k] = segKey (p[9 + k.val]'(by omega)) := by
  rw [← pktDigits_getElem, pktKeys_eq_map]
  exact Vector.getElem_map segKey k.isLt

/-- The digit bytes are bytes 9 to 14 and read no other. -/
theorem pktDigits_congr {p q : Packet} (h : ∀ i : Fin 18, 9 ≤ i.val → i.val ≤ 14 → p[i] = q[i]) : pktDigits p = pktDigits q := by
  refine Vector.ext fun k hk => ?_
  rw [show (pktDigits p)[k] = _ from pktDigits_getElem p ⟨k, hk⟩, show (pktDigits q)[k] = _ from pktDigits_getElem q ⟨k, hk⟩]
  exact h ⟨9 + k, by omega⟩ (by simp) (by simp; omega)

theorem dpBit_eq_and (b : Byte) : dpBit b = decide (b &&& 0x04 ≠ 0) := by
  have h : (0x04 : Byte) = BitVec.twoPow 8 2 := rfl
  rw [dpBit, h, BitVec.and_twoPow]
  cases b.getLsbD 2 <;> decide

theorem segKey_eq_self_iff (b : Byte) : segKey b = b ↔ b.getLsbD 2 = false := by
  constructor
  · intro h
    rw [← h, segKey_getLsbD]
    simp
  · refine fun h => BitVec.eq_of_getLsbD_eq fun i _ => ?_
    rw [segKey_getLsbD]
    by_cases hi : i = 2
    · rw [hi, h, Bool.false_and]
    · simp [hi]

/-- The key does not look at bit 2 (spec/40_extract.md R55). -/
theorem segKey_xor_four (b : Byte) : segKey (b ^^^ 0x04) = segKey b := by
  have h : (0x04 : Byte) = BitVec.twoPow 8 2 := rfl
  refine BitVec.eq_of_getLsbD_eq fun i _ => ?_
  rw [segKey_getLsbD, segKey_getLsbD, BitVec.getLsbD_xor, h, BitVec.getLsbD_twoPow]
  by_cases hi : i = 2
  · simp [hi]
  · simp [hi, Ne.symm hi]

/-- The keys are the bytes with bit 2 clear, the other half of those that have it set. -/
theorem countP_segKey_eq_self :
    (List.range 256).countP (fun n => decide (segKey (BitVec.ofNat 8 n) = BitVec.ofNat 8 n)) = 128 := by
  have hset := countP_getLsbD_bytes (i := 2) (by decide)
  have htotal := List.length_eq_countP_add_countP (fun n => (BitVec.ofNat 8 n).getLsbD 2) (l := List.range 256)
  rw [hset, List.length_range] at htotal
  simp only [segKey_eq_self_iff, ← Bool.not_eq_true]
  omega

namespace Machine

/-- Settles O1: the fields are named packet bytes, and bytes 8 to 16 are all that FIELDS reads. -/
theorem fieldsSplitsThePacket : Obligations.FieldsSplitsThePacket := by
  refine fun s p => ⟨_, exec_fields s p, rfl, pktDigits_getElem p, rfl, rfl, rfl, fun q h => ?_⟩
  have hms : pktMs q = pktMs p := h 8 (by decide) (by decide)
  have hd : pktDigits q = pktDigits p := pktDigits_congr fun i _ _ => h i (by omega) (by omega)
  have hus1 : pktUs1 q = pktUs1 p := h 15 (by decide) (by decide)
  have hus2 : pktUs2 q = pktUs2 p := h 16 (by decide) (by decide)
  rw [exec_fields, State.evalFields, hms, hd, hus1, hus2, State.evalFields]

/-- Settles O4: both forms write the selector's answer, and CFG0's selector is the constant 0 (log 7). -/
theorem xcalAsksTheSelector : Obligations.XcalAsksTheSelector := by
  refine fun s p => ⟨exec_xcal s p, exec_flagCal s p, fun h => ?_⟩
  rw [h]
  rfl

/-- Settles O6: the point bit is bit 2 in both spellings (`dpBit_eq_and`), and DIGITS takes it of each digit byte. -/
theorem xdpReadsBitTwo : Obligations.XdpReadsBitTwo := by
  refine fun s => ⟨fun b => ⟨exec_xdp s b, ?_⟩, fun p r => ⟨_, exec_digits s p r, fun k => ?_⟩⟩
  · rw [exec_xdp, dpBit_eq_and, State.setXdp]
  · rw [exec_xdp, State.evalDigits_dp, pktPoints_getElem, State.setXdp]

/-- Settles O7: bit by bit the key is the byte with bit 2 cleared (`segKey_getLsbD`), and one key serves both values of bit 2. -/
theorem xsegClearsBitTwoOnly : Obligations.XsegClearsBitTwoOnly := by
  refine ⟨fun s b => ⟨⟨_, exec_xseg s b, rfl, rfl, fun i => segKey_getLsbD b i, ?_, ?_⟩, fun h => ?_⟩,
    countP_segKey_eq_self, fun s p r => ⟨_, exec_digits s p r, fun k => ?_⟩⟩
  · rw [exec_xseg, segKey_xor_four]
  · rw [State.setXseg_xseg, ← segKey, segKey_xor_four]
  · rw [exec_xseg, (segKey_eq_self_iff b).2 h, State.setXseg]
  · rw [exec_xseg, State.evalDigits_key, pktKeys_getElem, State.setXseg]

@[simp] theorem evalDecode_flags (s : State) (p : Packet) (r : Bit) : (evalDecode s p r).flags = xmodeOf s.cfg (pktMs p) := rfl
@[simp] theorem evalDecode_merged (s : State) (p : Packet) (r : Bit) :
    (evalDecode s p r).merged = mergeBytes (pktUs1 p) (pktUs2 p) := rfl
@[simp] theorem evalDecode_dp (s : State) (p : Packet) (r : Bit) : (evalDecode s p r).dp = pktPoints p := rfl
@[simp] theorem evalDecode_key (s : State) (p : Packet) (r : Bit) : (evalDecode s p r).key = pktKeys p := rfl

/-- Settles O8: DECODE's flags read byte 8, its points and keys bytes 9 to 14, its merged byte bytes 15 and 16. -/
theorem extractionsAreIndependent : Obligations.ExtractionsAreIndependent := by
  intro s t u p q r ht hu
  rw [exec_decode] at ht hu
  obtain rfl := Host.Outcome.next.inj ht
  obtain rfl := Host.Outcome.next.inj hu
  simp only [evalDecode_flags, evalDecode_merged, evalDecode_dp, evalDecode_key]
  have flags (h : p[8] = q[8]) : xmodeOf s.cfg (pktMs p) = xmodeOf s.cfg (pktMs q) := congrArg (xmodeOf s.cfg) h
  have merged (h15 : p[15] = q[15]) (h16 : p[16] = q[16]) :
      mergeBytes (pktUs1 p) (pktUs2 p) = mergeBytes (pktUs1 q) (pktUs2 q) := congrArg₂ mergeBytes h15 h16
  have digits (h : ∀ i : Fin 18, 9 ≤ i.val → i.val ≤ 14 → p[i] = q[i]) : pktPoints p = pktPoints q ∧ pktKeys p = pktKeys q := by
    simp only [pktPoints_eq_map, pktKeys_eq_map, pktDigits_congr h, and_self]
  refine ⟨fun h => ⟨?_, digits ?_⟩, fun h => ⟨?_, ?_⟩, fun h => ⟨?_, digits ?_⟩⟩
  · exact merged (h 15 (by decide)) (h 16 (by decide))
  · exact fun i _ _ => h i (by omega)
  · exact flags (h 8 (by decide))
  · exact merged (h 15 (by decide)) (h 16 (by decide))
  · exact flags (h 8 (by decide))
  · exact fun i _ _ => h i (by omega)

end Machine

end Sys2Proof
end

section
/-! The mode string (spec/41_mode.md R65 to R72): the codes of its four fields, the 32 strings that occur, and the one function of the
mode-status byte and CAL that both GETMODE presented alone and DECODE write. -/

namespace Sys2Proof

theorem autoField_codes (v : Bit) : autoField v = if v then [0x41, 0x55, 0x54, 0x4F, 0x20] else List.replicate 5 0x20 := rfl

theorem relField_codes (v : Bit) : relField v = if v then [0x52, 0x45, 0x4C, 0x20] else List.replicate 4 0x20 := rfl

theorem dbField_codes (v : Bit) : dbField v = if v then [0x64, 0x42, 0x20] else List.replicate 3 0x20 := rfl

theorem slotField_codes (sto rcl cal : Bit) :
    slotField sto rcl cal = if sto then [0x53, 0x54, 0x4F] else if rcl then [0x52, 0x43, 0x4C] else if cal then [0x43, 0x41, 0x4C]
      else List.replicate 3 0x20 := rfl

/-- The four texts of the priority slot (spec/41_mode.md R69). -/
def slotTexts : List (List Cell) := [slotField true false false, slotField false true false, slotField false false true, blanks 3]

/-- What stands below the flag that wins the slot does not show. -/
theorem slotField_mem_slotTexts : ∀ sto rcl cal : Bit, slotField sto rcl cal ∈ slotTexts
  | true, _, _ => .head _
  | false, true, _ => .tail _ (.head _)
  | false, false, true => .tail _ (.tail _ (.head _))
  | false, false, false => .tail _ (.tail _ (.tail _ (.head _)))

/-- The mode strings that occur: two texts for each of three fields, four for the slot (spec/41_mode.md R70). -/
def modeStrings : List (List Cell) :=
  [false, true].flatMap fun auto => [false, true].flatMap fun rel => [false, true].flatMap fun db =>
    slotTexts.map (autoField auto ++ relField rel ++ dbField db ++ ·)

theorem modeStrings_length : modeStrings.length = 32 := rfl

theorem getmodeCells_mem_modeStrings (auto rel db sto rcl cal : Bit) : getmodeCells auto rel db sto rcl cal ∈ modeStrings := by
  have hbit (v : Bit) : v ∈ [false, true] := by cases v <;> decide
  exact List.mem_flatMap.2 ⟨auto, hbit auto, List.mem_flatMap.2 ⟨rel, hbit rel, List.mem_flatMap.2 ⟨db, hbit db,
    List.mem_map_of_mem (slotField_mem_slotTexts sto rcl cal)⟩⟩⟩

/-- The mode string of a mode-status byte and CAL. -/
def modeText (c : Cfg) (ms : Byte) (cal : Bit) : List Cell :=
  getmodeCells (flagBit c ms .auto) (flagBit c ms .rel) (flagBit c ms .db) (flagBit c ms .sto) (flagBit c ms .rcl) cal

/-- The mode string reads no other flag than AUTO, REL, dB, STO and RCL (spec/41_mode.md R71). -/
theorem modeText_congr {c : Cfg} {ms ms' : Byte} (h : ∀ f : Flag, f ≠ .bat → f ≠ .ac → f ≠ .neg → flagBit c ms f = flagBit c ms' f)
    (cal : Bit) : modeText c ms cal = modeText c ms' cal := by
  have hauto := h .auto (by decide) (by decide) (by decide)
  have hrel := h .rel (by decide) (by decide) (by decide)
  have hdb := h .db (by decide) (by decide) (by decide)
  have hsto := h .sto (by decide) (by decide) (by decide)
  have hrcl := h .rcl (by decide) (by decide) (by decide)
  rw [modeText, modeText, hauto, hrel, hdb, hsto, hrcl]

/-- Under a legal configuration 0x01 is AUTO and no other flag (spec/40_extract.md R52). -/
theorem flagBit_one {c : Cfg} (h : c.legal = true) (f : Flag) : flagBit c 0x01 f = decide (f = .auto) := by
  obtain ⟨_, hone, _⟩ := Machine.autoIsBitZeroAndNegSplitsTheBytes c
  exact hone h f

theorem modeText_one {c : Cfg} (h : c.legal = true) : modeText c 0x01 false = str ['A', 'U', 'T', 'O'] ++ blanks 11 := by
  simp only [modeText, flagBit_one h]
  decide

namespace Machine

/-- GETMODE presented alone reads its five flags in the byte, at their configured bits (log 2). -/
theorem decode_getmode (c : Cfg) (ms : Byte) (cal : Bit) : decode c ⟨.getmode, [ms, bitByte cal]⟩ =
    .ok (.getmode (flagBit c ms .auto) (flagBit c ms .rel) (flagBit c ms .db) (flagBit c ms .sto) (flagBit c ms .rcl) cal) := by
  simp [decode, decodeGetmode, xmodeOf]

theorem step_getmode {s : State} {ms : Byte} {cal : Bit} (h : s.request = some ⟨.getmode, [ms, bitByte cal]⟩) :
    step s = .next (s.setModeStr (modeText s.cfg ms cal)) :=
  step_of_request h (decode_getmode s.cfg ms cal)

@[simp] theorem evalDecode_modeStr (s : State) (p : Packet) (r : Bit) :
    (evalDecode s p r).modeStr = modeText s.cfg (pktMs p) (calOf s.cfg p) := rfl

/-- Settles O9: the fields' codes, one field after the other. -/
theorem getmodeRendersItsFields : Obligations.GetmodeRendersItsFields := by
  intro s auto rel db sto rcl cal
  rw [exec_getmode, getmodeCells, autoField_codes, relField_codes, dbField_codes, slotField_codes, State.setModeStr]

/-- Settles O10: what GETMODE writes is one of `modeStrings`, for any flags and CAL. -/
theorem modeStringIsFifteenCells : Obligations.ModeStringIsFifteenCells :=
  ⟨modeStrings, modeStrings_length, fun _ _ _ h =>
    ⟨_, step_getmode h, getmodeCells_length .., getmodeCells_mem_modeStrings ..⟩⟩

/-- Settles O11: the mode string is a function of the other five flags and CAL (`modeText_congr`). -/
theorem modeStringHidesBatAcNeg : Obligations.ModeStringHidesBatAcNeg := by
  intro s u t v ms ms' cal hcfg hs hu hflags ht hv
  obtain rfl := Host.Outcome.next.inj ((step_getmode hs).symm.trans ht)
  obtain rfl := Host.Outcome.next.inj ((step_getmode hu).symm.trans hv)
  calc modeText s.cfg ms cal = modeText s.cfg ms' cal := modeText_congr hflags cal
    _ = modeText u.cfg ms' cal := by rw [hcfg]

/-- Settles O12: DECODE writes the mode string of byte 8 and the selector's answer, here of AUTO alone. -/
theorem autoAloneScenario : Obligations.AutoAloneScenario := by
  intro s p r hlegal hms hcal
  refine ⟨_, exec_decode s p r, ?_⟩
  rw [evalDecode_modeStr, pktMs, hms, calOf, hcal, modeText_one hlegal]

end Machine

end Sys2Proof
end

section
/-! The unit-merger (spec/42_merge.md R75 to R79): the merge field is two bits of the second unit-status byte in places 6 and 7, so it is
one of four bytes; the merge is the OR of the first unit-status byte and that field. -/

namespace Sys2Proof

/-- The field mask keeps bits 1 and 2 and clears the six others (spec/42_merge.md R76). -/
theorem and_six_eq (b : Byte) : b &&& 0x06 = (if b.getLsbD 1 then 0x02#8 else 0) ||| (if b.getLsbD 2 then 0x04#8 else 0) := by
  have hmask : (0x06 : Byte) = BitVec.twoPow 8 1 ||| BitVec.twoPow 8 2 := rfl
  rw [hmask, BitVec.and_or_distrib_left, BitVec.and_twoPow, BitVec.and_twoPow]
  rfl

theorem and_six_mem (b : Byte) : b &&& 0x06 ∈ [0x00#8, 0x02#8, 0x04#8, 0x06#8] := by
  rw [and_six_eq]
  cases b.getLsbD 1 <;> cases b.getLsbD 2 <;> decide

theorem us2Field_mem (b : Byte) : us2Field b ∈ [0x00#8, 0x40#8, 0x80#8, 0xC0#8] :=
  List.mem_map_of_mem (f := fun f : Byte => f <<< 5) (and_six_mem b)

/-- The field's two bits stand in places 6 and 7 (spec/42_merge.md R75). -/
theorem us2Field_eq (b : Byte) :
    us2Field b = (if b.getLsbD 1 then BitVec.twoPow 8 6 else 0#8) ||| (if b.getLsbD 2 then BitVec.twoPow 8 7 else 0#8) := by
  rw [us2Field, and_six_eq]
  cases b.getLsbD 1 <;> cases b.getLsbD 2 <;> rfl

theorem us2Field_getLsbD (b : Byte) (i : Nat) :
    (us2Field b).getLsbD i = (decide (i = 6) && b.getLsbD 1 || decide (i = 7) && b.getLsbD 2) := by
  have h6 : (BitVec.twoPow 8 6).getLsbD i = decide (i = 6) := by simp [BitVec.getLsbD_twoPow, eq_comm]
  have h7 : (BitVec.twoPow 8 7).getLsbD i = decide (i = 7) := by simp [BitVec.getLsbD_twoPow, eq_comm]
  rw [us2Field_eq, BitVec.getLsbD_or, ← h6, ← h7]
  cases b.getLsbD 1 <;> cases b.getLsbD 2 <;> simp

/-- The shift loses no bit: none of the four masked values reaches past bit 7 (spec/42_merge.md R76). -/
theorem us2Field_toNat (b : Byte) : (us2Field b).toNat = (b &&& 0x06).toNat * 32 := by
  have four : ∀ f ∈ [0x00#8, 0x02#8, 0x04#8, 0x06#8], (f <<< 5).toNat = f.toNat * 32 := by decide
  exact four _ (and_six_mem b)

@[simp] theorem us2Field_and_low_six (b : Byte) : us2Field b &&& 0x3F = 0 := by
  have four : ∀ f ∈ [0x00#8, 0x40#8, 0x80#8, 0xC0#8], f &&& 0x3F#8 = 0#8 := by decide
  exact four _ (us2Field_mem b)

@[simp] theorem us2Field_zero : us2Field 0 = 0 := rfl

theorem us2Field_and (b b' : Byte) : us2Field (b &&& b') = us2Field b &&& us2Field b' := by
  have hmask : (b &&& b') &&& 0x06 = (b &&& 0x06) &&& (b' &&& 0x06) := calc
    (b &&& b') &&& 0x06 = (b &&& b') &&& (0x06 &&& 0x06) := by rw [BitVec.and_self]
    _ = (b &&& 0x06) &&& (b' &&& 0x06) := by ac_rfl
  rw [us2Field, hmask, BitVec.shiftLeft_and_distrib, us2Field, us2Field]

/-- The mask drops whatever stands in the six other bits (spec/42_merge.md R78). -/
theorem us2Field_other_bits (b x : Byte) : us2Field ((b &&& 0x06) ||| (x &&& 0xF9)) = us2Field b := by
  have hmask : ((b &&& 0x06) ||| (x &&& 0xF9)) &&& 0x06 = b &&& 0x06 := by
    rw [BitVec.and_or_distrib_right, BitVec.and_assoc, BitVec.and_assoc]
    simp
  rw [us2Field, hmask, us2Field]

theorem mergeBytes_getLsbD (a b : Byte) (i : Nat) :
    (mergeBytes a b).getLsbD i = (a.getLsbD i || (decide (i = 6) && b.getLsbD 1 || decide (i = 7) && b.getLsbD 2)) := by
  rw [mergeBytes, BitVec.getLsbD_or, us2Field_getLsbD]

@[simp] theorem mergeBytes_zero_right (a : Byte) : mergeBytes a 0 = a := by
  rw [mergeBytes, us2Field_zero]
  simp

/-- The OR of the two numbers, cut to 8 bits: a wider shift brings nothing back (spec/42_merge.md R76). -/
theorem mergeBytes_eq_ofNat (a b : Byte) : mergeBytes a b = BitVec.ofNat 8 (a.toNat ||| ((b &&& 0x06).toNat <<< 5)) := by
  have hshift : (b &&& 0x06).toNat <<< 5 = (us2Field b).toNat := by rw [us2Field_toNat, Nat.shiftLeft_eq]
  rw [hshift, ← BitVec.toNat_or, BitVec.ofNat_toNat, BitVec.setWidth_eq, mergeBytes]

theorem mergeBytes_and_low_six (a b : Byte) : mergeBytes a b &&& 0x3F = a &&& 0x3F := by
  rw [mergeBytes, BitVec.and_or_distrib_right, us2Field_and_low_six]
  simp

theorem mergeBytes_or_left (a b : Byte) : mergeBytes a b ||| a = mergeBytes a b := by
  rw [mergeBytes, BitVec.or_comm, ← BitVec.or_assoc, BitVec.or_self]

/-- OR is monotone, with `x &&& y = x` for "every bit of x is a bit of y". -/
theorem or_and_or_eq_left {a a' f f' : Byte} (ha : a &&& a' = a) (hf : f &&& f' = f) : (a ||| f) &&& (a' ||| f') = a ||| f := by
  have bit : ∀ x x' y y' : Bool, (x && x') = x → (y && y') = y → ((x || y) && (x' || y')) = (x || y) := by decide
  refine BitVec.eq_of_getLsbD_eq fun i _ => ?_
  rw [BitVec.getLsbD_and, BitVec.getLsbD_or, BitVec.getLsbD_or]
  apply bit
  · rw [← BitVec.getLsbD_and, ha]
  · rw [← BitVec.getLsbD_and, hf]

theorem mergeBytes_mono {a a' b b' : Byte} (ha : a &&& a' = a) (hb : b &&& b' = b) :
    mergeBytes a b &&& mergeBytes a' b' = mergeBytes a b :=
  or_and_or_eq_left ha (by rw [← us2Field_and, hb])

namespace Machine

/-- Settles O13: the formula is `mergeBytes` by definition, its bits are `mergeBytes_getLsbD`. -/
theorem mergeIsTheOr : Obligations.MergeIsTheOr := by
  refine fun s us1 us2 => ⟨_, exec_merge s us1 us2, rfl, rfl, ?_, ?_, fun k hk => ?_⟩ <;>
    rw [State.setMerged_merged, mergeBytes_getLsbD]
  · simp
  · simp
  · simp [show k ≠ 6 by omega, show k ≠ 7 by omega]

/-- Settles O14: what the row and MERGE write is `us2Field` and `mergeBytes`, one of four values and the number's OR. -/
theorem mergeNeverOverflows : Obligations.MergeNeverOverflows := fun s us1 us2 =>
  ⟨_, _, exec_us2MergeField s us2, rfl, exec_merge s us1 us2, and_six_mem us2, us2Field_mem us2, us2Field_toNat us2, rfl,
    mergeBytes_eq_ofNat us1 us2⟩

/-- Settles O15: MERGE masks its second operand, and DECODE's merged byte reads bytes 15 and 16. -/
theorem mergeIgnoresUnrelatedBits : Obligations.MergeIgnoresUnrelatedBits := by
  refine ⟨fun s us1 us2 x => ?_, fun s t u p q r r' h15 h16 ht hu => ?_⟩
  · rw [exec_merge, exec_merge, mergeBytes, mergeBytes, us2Field_other_bits]
  · obtain rfl := Host.Outcome.next.inj ((exec_decode s p r).symm.trans ht)
    obtain rfl := Host.Outcome.next.inj ((exec_decode s q r').symm.trans hu)
    exact congrArg₂ mergeBytes h15 h16

/-- Settles O16: each law is one of `mergeBytes`; one byte of two operand pairs shows that the merge is not one-to-one. -/
theorem mergeLawsHold : Obligations.MergeLawsHold := by
  refine fun s => ⟨fun a b => ⟨_, exec_merge s a b, mergeBytes_and_low_six a b, mergeBytes_or_left a b⟩,
    fun a a' b b' t u ha hb ht hu => ?_, fun m => ?_, ?_⟩
  · obtain rfl := Host.Outcome.next.inj ((exec_merge s a b).symm.trans ht)
    obtain rfl := Host.Outcome.next.inj ((exec_merge s a' b').symm.trans hu)
    exact mergeBytes_mono ha hb
  · rw [exec_merge, mergeBytes_zero_right, State.setMerged]
  · have hpair : mergeBytes 0x40 0x00 = mergeBytes 0x00 0x02 := by decide
    rw [exec_merge, exec_merge, hpair]

end Machine

end Sys2Proof
end

section
/-! The unit decoder (spec/43_unit.md R81 to R87): the decision list read one base flag after the other, what each of its rows asks of
the merged byte, and what the AC flag and the rendering selector change in a row's string. -/

namespace Sys2Proof

@[simp] theorem testMask_eq_true (m u : Byte) : testMask m u = true ↔ m &&& u ≠ 0 := by simp [testMask]

/-- The decision list, its conditions as propositions about the masks (spec/43_unit.md R82). -/
theorem unitRowOf_eq (c : Cfg) (m : Byte) : unitRowOf c m =
    if m &&& c.uOhm ≠ 0 ∧ m &&& c.uKilo ≠ 0 then .kiloOhm
    else if m &&& c.uOhm ≠ 0 ∧ m &&& c.uMega ≠ 0 then .megaOhm
    else if m &&& c.uOhm ≠ 0 then .ohm
    else if m &&& c.uAmp ≠ 0 ∧ m &&& c.uMicro ≠ 0 then .microAmp
    else if m &&& c.uAmp ≠ 0 ∧ m &&& c.uMilliA ≠ 0 then .milliAmp
    else if m &&& c.uAmp ≠ 0 then .amp
    else if m &&& c.uVolt ≠ 0 ∧ m &&& c.uMilliV ≠ 0 then .milliVolt
    else if m &&& c.uVolt ≠ 0 then .volt
    else .fallback := by
  simp only [unitRowOf, Bool.and_eq_true, testMask_eq_true]

/-! The list by base flag: the first base flag that is set picks the unit, then its own scale bits pick the row (spec/43_unit.md R85). -/

theorem unitRowOf_of_ohm {c : Cfg} {m : Byte} (hohm : m &&& c.uOhm ≠ 0) : unitRowOf c m =
    if m &&& c.uKilo ≠ 0 then .kiloOhm else if m &&& c.uMega ≠ 0 then .megaOhm else .ohm := by
  simp only [unitRowOf_eq, ne_eq, hohm, not_false_eq_true, true_and, if_true]

theorem unitRowOf_of_amp {c : Cfg} {m : Byte} (hohm : m &&& c.uOhm = 0) (hamp : m &&& c.uAmp ≠ 0) : unitRowOf c m =
    if m &&& c.uMicro ≠ 0 then .microAmp else if m &&& c.uMilliA ≠ 0 then .milliAmp else .amp := by
  simp only [unitRowOf_eq, ne_eq, hohm, hamp, not_true_eq_false, not_false_eq_true, false_and, true_and, if_false, if_true]

theorem unitRowOf_of_volt {c : Cfg} {m : Byte} (hohm : m &&& c.uOhm = 0) (hamp : m &&& c.uAmp = 0) (hvolt : m &&& c.uVolt ≠ 0) :
    unitRowOf c m = if m &&& c.uMilliV ≠ 0 then .milliVolt else .volt := by
  simp only [unitRowOf_eq, ne_eq, hohm, hamp, hvolt, not_true_eq_false, not_false_eq_true, false_and, true_and, if_false, if_true]

/-- The fallback is what no base flag leaves, and nothing else (spec/43_unit.md R84). -/
theorem unitRowOf_eq_fallback_iff (c : Cfg) (m : Byte) :
    unitRowOf c m = .fallback ↔ m &&& c.uOhm = 0 ∧ m &&& c.uAmp = 0 ∧ m &&& c.uVolt = 0 := by
  by_cases hohm : m &&& c.uOhm = 0
  · by_cases hamp : m &&& c.uAmp = 0
    · by_cases hvolt : m &&& c.uVolt = 0
      · simp [unitRowOf_eq, hohm, hamp, hvolt]
      · rw [unitRowOf_of_volt hohm hamp hvolt]
        split_ifs <;> exact iff_of_false nofun fun ⟨_, _, h⟩ => hvolt h
    · rw [unitRowOf_of_amp hohm hamp]
      split_ifs <;> exact iff_of_false nofun fun ⟨_, h, _⟩ => hamp h
  · rw [unitRowOf_of_ohm hohm]
    split_ifs <;> exact iff_of_false nofun fun ⟨h, _⟩ => hohm h

/-- The rows with the Ω glyph in cell 1 (spec/43_unit.md R83). -/
def ohmRows : List UnitRow := [.kiloOhm, .megaOhm, .ohm]

theorem uOhm_of_mem_ohmRows {c : Cfg} {m : Byte} (h : unitRowOf c m ∈ ohmRows) : m &&& c.uOhm ≠ 0 := by
  intro hohm
  rw [unitRowOf_eq] at h
  simp only [hohm, ne_eq, not_true_eq_false, false_and, if_false] at h
  split_ifs at h <;> simp [ohmRows] at h

theorem masks_of_unitRowOf_eq_microAmp {c : Cfg} {m : Byte} (h : unitRowOf c m = .microAmp) :
    m &&& c.uOhm = 0 ∧ m &&& c.uAmp ≠ 0 ∧ m &&& c.uMicro ≠ 0 := by
  rw [unitRowOf_eq] at h
  split_ifs at h with _ _ hohm hmicro
  exact ⟨not_not.1 hohm, hmicro⟩

/-- What the rendering selector changes in a row's string: the Ω cell of an Ohm row, the μ cell of the microAmp row (spec/43_unit.md
R83). -/
theorem unitRowCells_rsel (c : Cfg) (row : UnitRow) (ac : Bit) (i : Nat) :
    (unitRowCells c row ac false)[i]? = (unitRowCells c row ac true)[i]?
      ∨ (i = 1 ∧ row ∈ ohmRows ∧ (unitRowCells c row ac false)[i]? = some c.omega0 ∧ (unitRowCells c row ac true)[i]? = some c.omega1)
      ∨ (i = 0 ∧ row = .microAmp ∧ (unitRowCells c row ac false)[i]? = some c.mu0 ∧ (unitRowCells c row ac true)[i]? = some c.mu1) := by
  cases row with
  | kiloOhm | megaOhm | ohm =>
    match i with
    | 1 => exact .inr (.inl ⟨rfl, by decide, rfl, rfl⟩)
    | 0 | _ + 2 => exact .inl rfl
  | microAmp =>
    match i with
    | 0 => exact .inr (.inr ⟨rfl, rfl, rfl, rfl⟩)
    | _ + 1 => exact .inl rfl
  | milliAmp | amp | milliVolt | volt | fallback => exact .inl rfl

/-- The rows whose string shows AC, rows 4 to 8 of the list (spec/43_unit.md R82). -/
def acRows : List UnitRow := [.microAmp, .milliAmp, .amp, .milliVolt, .volt]

/-- The rows whose string never shows AC (spec/43_unit.md R82, R84). -/
def acFreeRows : List UnitRow := .fallback :: ohmRows

theorem mem_acRows_or_acFreeRows (row : UnitRow) : row ∈ acRows ∨ row ∈ acFreeRows := by cases row <;> decide

theorem unitRowCells_of_mem_acFreeRows {row : UnitRow} (h : row ∈ acFreeRows) (c : Cfg) (ac r : Bit) :
    unitRowCells c row ac r = unitRowCells c row false r := by
  fin_cases h <;> rfl

/-- The unit strings of one selector: one for each row without AC, two for each row with it (spec/43_unit.md R87). -/
def unitStrings (c : Cfg) (r : Bit) : List (List Cell) :=
  acFreeRows.map (unitRowCells c · false r) ++ [false, true].flatMap fun ac => acRows.map (unitRowCells c · ac r)

theorem unitStrings_length (c : Cfg) (r : Bit) : (unitStrings c r).length = 14 := rfl

theorem unitRowCells_mem_unitStrings (c : Cfg) (row : UnitRow) (ac r : Bit) : unitRowCells c row ac r ∈ unitStrings c r := by
  rcases mem_acRows_or_acFreeRows row with h | h
  · have hac : ac ∈ [false, true] := by cases ac <;> decide
    exact List.mem_append_right _ (List.mem_flatMap.2 ⟨ac, hac, List.mem_map_of_mem h⟩)
  · rw [unitRowCells_of_mem_acFreeRows h]
    exact List.mem_append_left _ (List.mem_map_of_mem h)

/-! Legal masks (spec/00_scope.md R5, 92_eei_decisions.md D21) are one bit each, so different masks share no bit. -/

theorem isOneBit_iff (u : Byte) : isOneBit u = true ↔ ∃ k < 8, u = BitVec.twoPow 8 k := by
  simp [isOneBit, BitVec.twoPow_eq]

theorem and_eq_zero_of_isOneBit {u v : Byte} (hu : isOneBit u = true) (hv : isOneBit v = true) (h : u ≠ v) : u &&& v = 0 := by
  obtain ⟨i, _, rfl⟩ := (isOneBit_iff u).1 hu
  obtain ⟨j, _, rfl⟩ := (isOneBit_iff v).1 hv
  have hij : i ≠ j := fun e => h (e ▸ rfl)
  simp [BitVec.and_twoPow, BitVec.getLsbD_twoPow, hij]

theorem ne_zero_of_isOneBit {u : Byte} (hu : isOneBit u = true) : u ≠ 0 := by
  rintro rfl
  exact absurd hu (by decide)

theorem Cfg.unitMasksLegal_of_legal {c : Cfg} (h : c.legal = true) : c.unitMasksLegal = true := by
  simp only [Cfg.legal, Bool.and_eq_true] at h
  obtain ⟨⟨_, hmasks⟩, _⟩ := h
  exact hmasks

/-- Under a legal configuration the byte with only the Volts flag selects the Volt row (spec/43_unit.md R86). -/
theorem unitRowOf_uVolt {c : Cfg} (h : c.legal = true) : unitRowOf c c.uVolt = .volt := by
  have hmasks := Cfg.unitMasksLegal_of_legal h
  simp only [Cfg.unitMasksLegal, Bool.and_eq_true, List.all_cons, List.all_nil, bne_iff_ne, and_true, and_assoc] at hmasks
  obtain ⟨hohm, _, _, hamp, _, _, hvolt, hmilliV, _, hohmVolt, hampVolt, _, _, _, _, _, _, hmilliVVolt⟩ := hmasks
  have hnoOhm := and_eq_zero_of_isOneBit hvolt hohm hohmVolt.symm
  have hnoAmp := and_eq_zero_of_isOneBit hvolt hamp hampVolt.symm
  have hnoMilliV := and_eq_zero_of_isOneBit hvolt hmilliV hmilliVVolt.symm
  have hself : c.uVolt &&& c.uVolt ≠ 0 := by rw [BitVec.and_self]; exact ne_zero_of_isOneBit hvolt
  rw [unitRowOf_of_volt hnoOhm hnoAmp hself, if_neg (not_not.2 hnoMilliV)]

namespace Machine

theorem decode_mergedunits (c : Cfg) (m : Byte) (ac r : Bit) :
    decode c ⟨.mergedunits, [m, bitByte ac, bitByte r]⟩ = .ok (decodeMergedunits c m ac r) := takeByteBits_bytes m ac r _

/-- A presented merged byte is read as the fallback row when the decision list falls through. -/
theorem decodeMergedunits_eq_unitNone_iff (c : Cfg) (m : Byte) (ac r : Bit) :
    decodeMergedunits c m ac r = .unitNone m ac r ↔ unitRowOf c m = .fallback := by
  unfold decodeMergedunits
  cases unitRowOf c m <;> simp

/-- Settles O17: the string of the row is the row's own string, whichever condition of the list holds first. -/
theorem unitdecTakesTheFirstMatch : Obligations.UnitdecTakesTheFirstMatch := by
  intro s m ac r
  rw [exec_unitdec, unitdecOf, unitRowOf_eq]
  simp only [apply_ite (unitRowCells s.cfg · ac r)]
  rfl

/-- Settles O18: each row writes `unitRowCells` of its name. -/
theorem unitRowsShowTheirStrings : Obligations.UnitRowsShowTheirStrings := fun s m ac r =>
  ⟨exec_unitKiloohm s m ac r, exec_unitMegaohm s m ac r, exec_unitOhm s m ac r, exec_unitMicroamp s m ac r,
    exec_unitMilliamp s m ac r, exec_unitAmp s m ac r, exec_unitMillivolt s m ac r, exec_unitVolt s m ac r, exec_unitNone s m ac r⟩

/-- Settles O20: the decoder and UNITDEC take the fallback for the same bytes, those without a base flag. -/
theorem fallbackExactlyWithoutABaseFlag : Obligations.FallbackExactlyWithoutABaseFlag := by
  intro s m ac r
  refine ⟨?_, fun hnone => ?_⟩
  · rw [decode_mergedunits, Except.ok.injEq, decodeMergedunits_eq_unitNone_iff, unitRowOf_eq_fallback_iff]
  · rw [exec_unitdec, unitdecOf, (unitRowOf_eq_fallback_iff s.cfg m).2 hnone]
    rfl

/-- Settles O21: the base flag fixes cell 1 in each of its rows, and the scale bit that stands first among its scale bits fixes cell 0. -/
theorem unitPrioritiesHold : Obligations.UnitPrioritiesHold := by
  intro s t m ac r ht
  obtain rfl := Host.Outcome.next.inj ((exec_unitdec s m ac r).symm.trans ht)
  simp only [State.setUnitStr_unitStr, unitdecOf, ne_eq, not_not]
  refine ⟨fun hohm => ?_, fun hohm hamp => ?_, fun hohm hamp hvolt => ?_, fun hohm hkilo => ?_, fun hohm hamp hmicro => ?_,
    fun hohm hamp hvolt hmilliV => ?_⟩
  · change _ = some (omegaGlyph s.cfg r)
    rw [unitRowOf_of_ohm hohm]
    split_ifs <;> rfl
  · rw [unitRowOf_of_amp hohm hamp]
    split_ifs <;> rfl
  · rw [unitRowOf_of_volt hohm hamp hvolt]
    split_ifs <;> rfl
  · rw [unitRowOf_of_ohm hohm, if_pos hkilo]
    rfl
  · rw [unitRowOf_of_amp hohm hamp, if_pos hmicro]
    rfl
  · rw [unitRowOf_of_volt hohm hamp hvolt, if_pos hmilliV]
    rfl

/-- Settles O22: a legal Volts flag alone selects the Volt row, whose cells have the stated codes. -/
theorem voltAloneScenario : Obligations.VoltAloneScenario := by
  refine ⟨fun s r hlegal => ?_, rfl⟩
  rw [exec_unitdec, unitdecOf, unitRowOf_uVolt hlegal]
  rfl

/-- Settles O23: both strings are of one row, so they differ as `unitRowCells_rsel` says, and the row tells which flags are set. -/
theorem selectorChangesOnlyGlyphCells : Obligations.SelectorChangesOnlyGlyphCells := by
  intro s t u m ac ht hu i
  obtain rfl := Host.Outcome.next.inj ((exec_unitdec s m ac false).symm.trans ht)
  obtain rfl := Host.Outcome.next.inj ((exec_unitdec s m ac true).symm.trans hu)
  rcases unitRowCells_rsel s.cfg (unitRowOf s.cfg m) ac i with h | ⟨hi, hrow, hcells⟩ | ⟨hi, hrow, hcells⟩
  · exact .inl h
  · exact .inr (.inl ⟨hi, uOhm_of_mem_ohmRows hrow, hcells⟩)
  · obtain ⟨hohm, hamp, hmicro⟩ := masks_of_unitRowOf_eq_microAmp hrow
    exact .inr (.inr ⟨hi, hohm, hamp, hmicro, hcells⟩)

/-- Settles O24: what UNITDEC writes is one of `unitStrings`, whichever row the byte selects. -/
theorem unitStringsAreFourteen : Obligations.UnitStringsAreFourteen := fun s r =>
  ⟨unitStrings s.cfg r, unitStrings_length s.cfg r, fun m ac =>
    ⟨_, exec_unitdec s m ac r, unitRowCells_mem_unitStrings .., unitRowCells_length ..⟩⟩

end Machine

end Sys2Proof
end

section
/-! The segment table (spec/44_segment.md R90 to R97). A legal table is a partial function of the key, so the lookup finds exactly its
rows; its keys have bit 2 clear, so every row serves two digit bytes, its key with and without the point; and no row shows the
sentinel. -/

namespace Sys2Proof

/-- The four parts of a legal segment table (spec/44_segment.md R96). -/
theorem Cfg.segtab_of_legal {c : Cfg} (h : c.legal = true) :
    (∀ row ∈ c.segtab, row.1.getLsbD 2 = false) ∧ (c.segtab.map Prod.fst).Nodup ∧ (∀ row ∈ sourceSegRows, row ∈ c.segtab)
      ∧ ∀ row ∈ c.segtab, row.2 ≠ sentinel := by
  simp only [Cfg.legal, Bool.and_eq_true] at h
  obtain ⟨_, htab⟩ := h
  simpa only [Cfg.segtabLegal, dpBit, Bool.and_eq_true, List.all_eq_true, decide_eq_true_eq, List.contains_iff_mem, bne_iff_ne,
    Bool.not_eq_true', and_assoc] using htab

theorem segLookup_eq_none_iff (c : Cfg) (k : Byte) : segLookup c k = none ↔ ∀ ch : Cell, (k, ch) ∉ c.segtab := by
  simp only [segLookup, List.lookup_eq_none_iff, Prod.forall, bne_iff_ne]
  exact ⟨fun h ch hmem => h k ch hmem rfl, fun h k' ch hmem hk => h ch (hk ▸ hmem)⟩

theorem mem_segtab_of_segLookup {c : Cfg} {k : Byte} {ch : Cell} (h : segLookup c k = some ch) : (k, ch) ∈ c.segtab := by
  obtain ⟨before, after, htab, _⟩ := List.lookup_eq_some_iff.1 h
  simp [htab]

/-- With different keys no row is hidden by one before it. -/
theorem segLookup_of_mem {c : Cfg} (h : c.legal = true) {k : Byte} {ch : Cell} (hmem : (k, ch) ∈ c.segtab) :
    segLookup c k = some ch := by
  obtain ⟨_, hkeys, _, _⟩ := Cfg.segtab_of_legal h
  cases hl : segLookup c k with
  | none => exact absurd hmem ((segLookup_eq_none_iff c k).1 hl ch)
  | some ch' =>
    have hrow : (k, ch') = (k, ch) := List.inj_on_of_nodup_map hkeys (mem_segtab_of_segLookup hl) hmem rfl
    exact congrArg some (Prod.mk.inj hrow).2

theorem segdecOf_of_mem {c : Cfg} (h : c.legal = true) {k : Byte} {ch : Cell} (hmem : (k, ch) ∈ c.segtab) : segdecOf c k = ch := by
  rw [segdecOf, segLookup_of_mem h hmem, Option.getD_some]

theorem segdecOf_of_not_mem {c : Cfg} {k : Byte} (hoff : ∀ ch : Cell, (k, ch) ∉ c.segtab) : segdecOf c k = sentinel := by
  rw [segdecOf, (segLookup_eq_none_iff c k).2 hoff, Option.getD_none]

/-- No row of a legal table shows the sentinel, so it tells that there is no row (spec/44_segment.md R91). -/
theorem segdecOf_eq_sentinel_iff {c : Cfg} (h : c.legal = true) (k : Byte) :
    segdecOf c k = sentinel ↔ ∀ ch : Cell, (k, ch) ∉ c.segtab := by
  obtain ⟨_, _, _, hshown⟩ := Cfg.segtab_of_legal h
  exact ⟨fun hs ch hmem => hshown _ hmem ((segdecOf_of_mem h hmem).symm.trans hs), segdecOf_of_not_mem⟩

/-- A byte with bit 2 set is no key of a legal table. -/
theorem not_mem_segtab_of_point {c : Cfg} (h : c.legal = true) {k : Byte} (hk : k.getLsbD 2 = true) (ch : Cell) :
    (k, ch) ∉ c.segtab := by
  obtain ⟨hclear, _, _, _⟩ := Cfg.segtab_of_legal h
  exact fun hmem => Bool.false_ne_true ((hclear _ hmem).symm.trans hk)

/-- The key is the same with the point set. -/
theorem segKey_or_four (b : Byte) : segKey (b ||| 0x04) = segKey b := by
  have hmask : (0x04 : Byte) &&& 0xFB = 0#8 := by decide
  rw [segKey, BitVec.and_or_distrib_right, hmask, BitVec.or_zero, segKey]

theorem xor_four_getLsbD_two (b : Byte) : (b ^^^ 0x04).getLsbD 2 = !b.getLsbD 2 := by
  rw [BitVec.getLsbD_xor, show (0x04 : Byte).getLsbD 2 = true from rfl, Bool.xor_true]

/-- The key is the byte itself with the point clear, the byte with bit 2 flipped with the point set. -/
theorem segKey_eq_self_or_flip (b : Byte) : segKey b = b ∨ segKey b = b ^^^ 0x04 := by
  cases hb : b.getLsbD 2 with
  | false => exact .inl ((segKey_eq_self_iff b).2 hb)
  | true =>
    have hflip : (b ^^^ 0x04).getLsbD 2 = false := by rw [xor_four_getLsbD_two, hb, Bool.not_true]
    exact .inr ((segKey_xor_four b).symm.trans ((segKey_eq_self_iff _).2 hflip))

/-- A digit byte has one of some keys when it is one of them, with the point clear or set. -/
theorem segKey_mem_iff {keys : List Byte} (hclear : ∀ k ∈ keys, k.getLsbD 2 = false) (b : Byte) :
    segKey b ∈ keys ↔ b ∈ keys ∨ b ^^^ 0x04 ∈ keys := by
  have hself {k : Byte} (hk : k ∈ keys) : segKey k = k := (segKey_eq_self_iff k).2 (hclear k hk)
  constructor
  · intro h
    rcases segKey_eq_self_or_flip b with e | e
    · exact .inl (e ▸ h)
    · exact .inr (e ▸ h)
  · rintro (h | h)
    · rwa [hself h]
    · rwa [← segKey_xor_four, hself h]

theorem xor_four_involutive : Function.Involutive fun b : Byte => b ^^^ 0x04 := fun b => by simp

/-- The 256 bytes in the order of their values. -/
def allBytes : List Byte := (List.range 256).map (BitVec.ofNat 8)

theorem mem_allBytes (b : Byte) : b ∈ allBytes :=
  List.mem_map.2 ⟨b.toNat, List.mem_range.2 b.isLt, (BitVec.ofNat_toNat 8 b).trans (BitVec.setWidth_eq b)⟩

theorem nodup_allBytes : allBytes.Nodup := by
  refine List.nodup_range.map_on fun m hm n hn h => ?_
  rw [List.mem_range] at hm hn
  have hval : (BitVec.ofNat 8 m).toNat = (BitVec.ofNat 8 n).toNat := congrArg BitVec.toNat h
  rwa [BitVec.toNat_ofNat, BitVec.toNat_ofNat, Nat.mod_eq_of_lt hm, Nat.mod_eq_of_lt hn] at hval

/-- The digit bytes of some keys: each key without the point and with it. -/
theorem perm_filter_segKey_mem {keys : List Byte} (hclear : ∀ k ∈ keys, k.getLsbD 2 = false) (hkeys : keys.Nodup) :
    (allBytes.filter fun b => decide (segKey b ∈ keys)).Perm (keys ++ keys.map (· ^^^ 0x04)) := by
  have hpoint : (keys.map (· ^^^ 0x04)).Nodup := hkeys.map xor_four_involutive.injective
  have hdisjoint : keys.Disjoint (keys.map (· ^^^ 0x04)) := by
    intro b hb hmem
    obtain ⟨k, hk, rfl⟩ := List.mem_map.1 hmem
    have hset : (k ^^^ 0x04).getLsbD 2 = true := by rw [xor_four_getLsbD_two, hclear k hk, Bool.not_false]
    exact Bool.false_ne_true ((hclear _ hb).symm.trans hset)
  refine (List.perm_ext_iff_of_nodup (nodup_allBytes.filter _) (hkeys.append hpoint hdisjoint)).2 fun b => ?_
  rw [List.mem_filter, and_iff_right (mem_allBytes b), decide_eq_true_iff, segKey_mem_iff hclear, List.mem_append,
    List.mem_map_of_involutive xor_four_involutive]

/-- Each key stands in two bytes, with and without the point. -/
theorem countP_segKey_mem {keys : List Byte} (hclear : ∀ k ∈ keys, k.getLsbD 2 = false) (hkeys : keys.Nodup) :
    (List.range 256).countP (fun n => decide (segKey (BitVec.ofNat 8 n) ∈ keys)) = 2 * keys.length := by
  have hcount := (perm_filter_segKey_mem hclear hkeys).length_eq
  rw [← List.countP_eq_length_filter, allBytes, List.countP_map, List.length_append, List.length_map, ← Nat.two_mul] at hcount
  exact hcount

/-- The bytes that show a table character are two for each row (spec/44_segment.md R97). -/
theorem countP_segdecOf_ne_sentinel {c : Cfg} (h : c.legal = true) :
    (List.range 256).countP (fun n => segdecOf c (segKey (BitVec.ofNat 8 n)) != sentinel) = 2 * c.segtab.length := by
  obtain ⟨hclear, hkeys, _, _⟩ := Cfg.segtab_of_legal h
  have hcount := countP_segKey_mem (keys := c.segtab.map Prod.fst) (by simpa using hclear) hkeys
  rw [List.length_map] at hcount
  rw [← hcount]
  refine List.countP_congr fun n _ => ?_
  simp [segdecOf_eq_sentinel_iff h]

namespace Machine

/-- Settles O25: SEGDEC writes `segdecOf` of the byte, which is the table's character on a row and the sentinel elsewhere; a byte with
bit 2 set is on no row, and both values of bit 2 of a digit byte give one key. -/
theorem segdecLooksTheKeyUp : Obligations.SegdecLooksTheKeyUp := by
  refine fun s k h => ⟨_, exec_segdec s k, rfl, fun ch hmem => ?_, fun hoff => ?_, fun hpoint => ?_, ?_⟩
  · exact segdecOf_of_mem h hmem
  · exact segdecOf_of_not_mem hoff
  · exact segdecOf_of_not_mem (not_mem_segtab_of_point h hpoint)
  · exact congrArg (fun key => exec (.segdec key) s) (segKey_xor_four k).symm

/-- Settles O26: what SEGDEC writes is the sentinel exactly off the table (`segdecOf_eq_sentinel_iff`). -/
theorem sentinelExactlyOffTheTable : Obligations.SentinelExactlyOffTheTable := fun s k h =>
  ⟨_, exec_segdec s k, segdecOf_eq_sentinel_iff h k⟩

/-- Settles O27: with or without the point the byte's key is the row's (`segKey_or_four`), and the row is in every legal table. -/
theorem sourceRowsShow : Obligations.SourceRowsShow := by
  intro s b row h hreq hrow hb
  obtain ⟨hclear, _, hsource, _⟩ := Cfg.segtab_of_legal h
  have hmem : row ∈ s.cfg.segtab := hsource row hrow
  have hself : segKey row.1 = row.1 := (segKey_eq_self_iff row.1).2 (hclear row hmem)
  have hkey : segKey b = row.1 := by
    rcases hb with rfl | rfl
    · exact hself
    · rw [segKey_or_four, hself]
  refine ⟨_, (digitByteRunsItsRow s b hreq).trans (exec_segdec s (segKey b)), ?_⟩
  rw [State.setSegChar_segChar, hkey]
  exact segdecOf_of_mem h hmem

/-- Settles O28: each row writes its own character, the last one the sentinel. -/
theorem segRowsShowTheirCharacters : Obligations.SegRowsShowTheirCharacters := fun s b =>
  ⟨exec_segBlank s b, exec_seg0 s b, exec_seg1 s b, exec_seg2 s b, exec_seg3 s b, exec_seg4 s b, exec_seg5 s b, exec_seg6 s b,
    exec_seg7 s b, exec_seg8 s b, exec_seg9 s b, exec_segCapA s b, exec_segCapC s b, exec_segCapE s b, exec_segCapH s b,
    exec_segCapL s b, exec_segLowC s b, exec_segLowN s b, exec_segLowO s b, exec_segLowR s b, exec_segLowT s b,
    exec_segLowU s b, exec_segEq s b, exec_segUnknown s b⟩

/-- Settles O30: CFG0's table is legal and has 23 rows, each for two bytes (`countP_segdecOf_ne_sentinel`); the other bytes show the
sentinel. -/
theorem referenceTableShowsFortySixBytes : Obligations.ReferenceTableShowsFortySixBytes := by
  have hlegal : cfg0.legal = true := by decide
  have hshown : (List.range 256).countP (fun n => segdecOf cfg0 (segKey (BitVec.ofNat 8 n)) != sentinel) = 46 :=
    countP_segdecOf_ne_sentinel hlegal
  have htotal := List.length_eq_countP_add_countP (fun n => segdecOf cfg0 (segKey (BitVec.ofNat 8 n)) != sentinel) (l := List.range 256)
  rw [hshown, List.length_range] at htotal
  have hoff : (List.range 256).countP (fun n => segdecOf cfg0 (segKey (BitVec.ofNat 8 n)) == sentinel)
      = (List.range 256).countP fun n => decide ¬(segdecOf cfg0 (segKey (BitVec.ofNat 8 n)) != sentinel) = true :=
    List.countP_congr fun n _ => by simp
  exact ⟨hshown, by rw [show asc '_' = sentinel from rfl, hoff]; omega⟩

end Machine

end Sys2Proof
end

section
/-! The sign and the digit string (spec/45_digits.md R100 to R108): the string is a compensation space if there is no point, the sign,
and the pieces of the six digit bytes (`digitPiece`); what cells a piece holds, and what it is for a row of a legal table. -/

namespace Sys2Proof

/-- The digit bytes in their order. -/
theorem pktDigits_toList (p : Packet) : (pktDigits p).toList = (List.finRange 6).map fun k => p[9 + k.val]'(by omega) := rfl

theorem pktPoints_toList (p : Packet) : (pktPoints p).toList = (pktDigits p).toList.map dpBit := by
  rw [pktPoints_eq_map, Vector.toList_map]

/-- The closed form over the list of digit bytes (spec/45_digits.md R103). -/
theorem digitsOf_eq (c : Cfg) (p : Packet) (r : Bit) :
    digitsOf c p r = (if (pktDigits p).toList.any dpBit then [] else [asc ' ']) ++ [signCell (flagBit c (pktMs p) .neg)]
      ++ (pktDigits p).toList.flatMap (digitPiece c) := by
  rw [digitsOf, digitWalk_eq, compensate]
  cases (pktDigits p).toList.any dpBit <;> rfl

/-- Some digit byte has its point set exactly when some `dp[k]` is set. -/
theorem any_pktDigits_iff (p : Packet) : (pktDigits p).toList.any dpBit = true ↔ ∃ k : Fin 6, (pktPoints p)[k] = true := by
  simp only [pktPoints_getElem]
  simp [pktDigits_toList]

theorem flatMap_digitPiece_pktDigits (c : Cfg) (p : Packet) : (pktDigits p).toList.flatMap (digitPiece c)
    = (List.finRange 6).flatMap fun k => (if (pktPoints p)[k] then [asc '.'] else []) ++ [segdecOf c (pktKeys p)[k]] := by
  simp only [pktDigits_toList, List.flatMap_map, digitPiece, pktPoints_getElem, pktKeys_getElem]

theorem dpsOf_pktPoints (p : Packet) : dpsOf (pktPoints p) = (pktDigits p).toList.countP dpBit := by
  rw [dpsOf, pktPoints_toList, List.countP_map]
  rfl

theorem dpsOf_le_six (dp : Vector Bit 6) : dpsOf dp ≤ 6 := by
  simpa [dpsOf] using List.countP_le_length (p := fun b => b) (l := dp.toList)

/-- The walk finds a point exactly when there is one to count (spec/10_state.md R14). -/
theorem digitWalk_found (c : Cfg) (neg : Bit) (p : Packet) :
    (digitWalk c neg (pktDigits p)).found = decide (1 ≤ dpsOf (pktPoints p)) := by
  rw [digitWalk_eq, dpsOf_pktPoints, Bool.eq_iff_iff, List.any_eq_true, decide_eq_true_iff, List.one_le_countP_iff]

/-- The number of points is their sum (spec/45_digits.md R101). -/
theorem dpsOf_pktPoints_eq_sum (p : Packet) :
    dpsOf (pktPoints p) = ∑ k : Fin 6, if dpBit (p[9 + k.val]'(by omega)) then 1 else 0 := by
  rw [dpsOf_pktPoints, pktDigits_toList, List.countP_map, Fin.sum_univ_def, List.sum_map_ite]
  simp [List.countP_eq_length_filter, Function.comp_def]

theorem mem_digitPiece {c : Cfg} {b : Byte} {x : Cell} (h : x ∈ digitPiece c b) : x = asc '.' ∨ x = segdecOf c (segKey b) := by
  rw [digitPiece, List.mem_append, List.mem_singleton] at h
  refine h.imp_left fun hpoint => ?_
  split at hpoint
  · exact List.mem_singleton.1 hpoint
  · exact absurd hpoint List.not_mem_nil

/-- What a key shows is the sentinel or the character of its row. -/
theorem segdecOf_eq_sentinel_or_mem (c : Cfg) (k : Byte) : segdecOf c k = sentinel ∨ (k, segdecOf c k) ∈ c.segtab := by
  cases hl : segLookup c k with
  | none => exact .inl (segdecOf_of_not_mem ((segLookup_eq_none_iff c k).1 hl))
  | some ch =>
    rw [segdecOf, hl]
    exact .inr (mem_segtab_of_segLookup hl)

/-- A digit byte adds only points, sentinels and table characters (spec/45_digits.md R108). -/
theorem mem_flatMap_digitPiece {c : Cfg} {bs : List Byte} {x : Cell} (h : x ∈ bs.flatMap (digitPiece c)) :
    x = asc '.' ∨ x = sentinel ∨ ∃ k, (k, x) ∈ c.segtab := by
  obtain ⟨b, _, hb⟩ := List.mem_flatMap.1 h
  rcases mem_digitPiece hb with hx | rfl
  · exact .inl hx
  · exact .inr ((segdecOf_eq_sentinel_or_mem c (segKey b)).imp_right fun hrow => ⟨_, hrow⟩)

/-- In a table with no minus no digit byte shows one. -/
theorem count_minus_flatMap_digitPiece {c : Cfg} (h : ∀ k, (k, asc '-') ∉ c.segtab) (bs : List Byte) :
    (bs.flatMap (digitPiece c)).count (asc '-') = 0 := by
  refine List.count_eq_zero.2 fun hmem => ?_
  rcases mem_flatMap_digitPiece hmem with hpoint | hsentinel | ⟨k, hrow⟩
  · exact absurd hpoint (by decide)
  · exact absurd hsentinel (by decide)
  · exact h k hrow

/-- The key of a legal row, as a digit byte, has no point and shows the row's character. -/
theorem digitPiece_of_mem {c : Cfg} (h : c.legal = true) {k : Byte} {ch : Cell} (hmem : (k, ch) ∈ c.segtab) :
    digitPiece c k = [ch] := by
  obtain ⟨hclear, _, _, _⟩ := Cfg.segtab_of_legal h
  have hpoint : dpBit k = false := hclear _ hmem
  rw [digitPiece, hpoint, (segKey_eq_self_iff k).2 hpoint, segdecOf_of_mem h hmem]
  rfl

/-- Digit bytes that are keys of a legal table show their rows' characters, one cell each. -/
theorem flatMap_digitPiece_of_rows {c : Cfg} (h : c.legal = true) {rows : List (Byte × Cell)} (hrows : ∀ row ∈ rows, row ∈ c.segtab) :
    (rows.map Prod.fst).flatMap (digitPiece c) = rows.map Prod.snd := by
  rw [List.flatMap_map, List.map_eq_flatMap]
  exact List.flatMap_congr fun row hrow => digitPiece_of_mem h (hrows row hrow)

/-- The rows of the source's scenario (spec/45_digits.md R106): 0 to 5, which stand after the blank's row. -/
def scenarioRows : List (Byte × Cell) := (sourceSegRows.drop 1).take 6

theorem mem_sourceSegRows_of_mem_scenarioRows {row : Byte × Cell} (h : row ∈ scenarioRows) : row ∈ sourceSegRows :=
  List.mem_of_mem_drop (List.mem_of_mem_take h)

namespace Machine

/-- SIGNCH presented alone reads NEG in the byte (log 2). -/
theorem step_signch {s : State} {ms : Byte} (h : s.request = some ⟨.signch, [ms]⟩) :
    step s = .next (s.setSignChar (signCell (flagBit s.cfg ms .neg))) :=
  step_of_request h rfl

/-- Settles O32: the closed form of the walk (`digitsOf_eq`), read through the points and keys that DIGITS writes. -/
theorem digitsClosedForm : Obligations.DigitsClosedForm := by
  refine fun s p r => ⟨_, exec_digits s p r, exec_digits s p (!r), rfl, fun k => ⟨?_, ?_⟩, ?_⟩
  · rw [State.evalDigits_dp, pktPoints_getElem, dpBit]
  · rw [State.evalDigits_key, pktKeys_getElem, segKey]
  · rw [State.evalDigits_digitStr, digitsOf_eq, flatMap_digitPiece_pktDigits]
    simp only [any_pktDigits_iff]
    rfl

/-- Settles O33: `dpsOf` counts the digit bytes with a point, and the walk finds one when the count is not 0. -/
theorem pointsAreCounted : Obligations.PointsAreCounted := fun s p r =>
  ⟨_, exec_digits s p r, dpsOf_pktPoints_eq_sum p, dpsOf_le_six (pktPoints p), digitWalk_found ..⟩

/-- Settles O36: the six bytes are keys of source rows, which every legal table has, so each shows its character and none a point. -/
theorem digitScenario : Obligations.DigitScenario := by
  intro s p r hlegal hneg h9 h10 h11 h12 h13 h14
  obtain ⟨_, _, hsource, _⟩ := Cfg.segtab_of_legal hlegal
  have hdigits : (pktDigits p).toList = scenarioRows.map Prod.fst := by
    rw [pktDigits, h9, h10, h11, h12, h13, h14]
    rfl
  have hnoPoint : (scenarioRows.map Prod.fst).any dpBit = false := by decide
  have hsign : flagBit s.cfg (pktMs p) .neg = false := hneg
  refine ⟨_, exec_digits s p r, ?_⟩
  rw [State.evalDigits_digitStr, digitsOf_eq, hdigits, hnoPoint, hsign,
    flatMap_digitPiece_of_rows hlegal fun row hrow => hsource row (mem_sourceSegRows_of_mem_scenarioRows hrow)]
  rfl

/-- Settles O37: in front of the digit bytes' cells (`mem_flatMap_digitPiece`) stand only spaces and the sign, and only the sign can be
a minus there. -/
theorem digitStringAlphabet : Obligations.DigitStringAlphabet := by
  intro s t p r ht
  obtain rfl := Host.Outcome.next.inj ((exec_digits s p r).symm.trans ht)
  rw [State.evalDigits_digitStr, digitsOf_eq]
  constructor
  · intro x hx
    rw [List.mem_append, List.mem_append] at hx
    rcases hx with (hspace | hsign) | hdigit
    · split at hspace
      · exact absurd hspace List.not_mem_nil
      · exact .inl (List.mem_singleton.1 hspace)
    · rw [List.mem_singleton.1 hsign, signCell]
      split
      · exact .inr (.inl rfl)
      · exact .inl rfl
    · exact .inr (.inr (mem_flatMap_digitPiece hdigit))
  · intro hminus
    have hspace (b : Bool) : (if b then [] else [asc ' ']).count (asc '-') = 0 := by cases b <;> decide
    have hsign (neg : Bit) : [signCell neg].count (asc '-') = if neg then 1 else 0 := by cases neg <;> decide
    rw [List.count_append, List.count_append, hspace, hsign, count_minus_flatMap_digitPiece hminus, Nat.zero_add, Nat.add_zero]
    rfl

/-- Settles O31: both forms write `signCell` of NEG, which the presented byte holds at its configured bit. -/
theorem signCharacterFollowsNeg : Obligations.SignCharacterFollowsNeg :=
  ⟨fun s neg => exec_signch s neg, fun _ _ h => ⟨_, step_signch h, rfl⟩⟩

end Machine

end Sys2Proof
end

section
/-! The reading formatter and the whole block (spec/46_format.md R110, R113 to R115): which packet bits each of the three strings reads,
how wide each string is, and DECODE as its stages one after the other. -/

namespace Sys2Proof

/-- The merge field reads bits 1 and 2 only (spec/42_merge.md R76). -/
theorem us2Field_congr {b b' : Byte} (h1 : b.getLsbD 1 = b'.getLsbD 1) (h2 : b.getLsbD 2 = b'.getLsbD 2) :
    us2Field b = us2Field b' := by
  rw [us2Field_eq, us2Field_eq, h1, h2]

/-- The digit string reads NEG and the six digit bytes, and not the selector (spec/46_format.md R114). -/
theorem digitsOf_congr {c : Cfg} {p q : Packet} (hneg : flagBit c (pktMs p) .neg = flagBit c (pktMs q) .neg)
    (hd : pktDigits p = pktDigits q) (r r' : Bit) : digitsOf c p r = digitsOf c q r' := by
  rw [digitsOf, digitsOf, hneg, hd]

/-- Six characters, the sign and the points, and the compensation space where there is no point: each point after the first widens the
string (spec/46_format.md R115, D11). -/
theorem digitsOf_length (c : Cfg) (p : Packet) (r : Bit) : (digitsOf c p r).length = 8 + (dpsOf (pktPoints p) - 1) := by
  have hpieces : ((pktDigits p).toList.flatMap (digitPiece c)).length = 6 + dpsOf (pktPoints p) := by
    rw [flatMap_digitPiece_length, dpsOf_pktPoints, Vector.length_toList]
  have hfound : (pktDigits p).toList.any dpBit = decide (1 ≤ dpsOf (pktPoints p)) := by
    rw [← digitWalk_found c false p, digitWalk_eq]
  rw [digitsOf_eq, hfound, List.length_append, List.length_append, hpieces, List.length_singleton]
  by_cases hpoint : 1 ≤ dpsOf (pktPoints p)
  · rw [if_pos (decide_eq_true hpoint), List.length_nil]
    omega
  · rw [if_neg (by simpa using hpoint), List.length_singleton]
    omega

namespace Machine

@[simp] theorem evalDecode_unitStr (s : State) (p : Packet) (r : Bit) :
    (evalDecode s p r).unitStr = unitdecOf s.cfg (mergeBytes (pktUs1 p) (pktUs2 p)) (flagBit s.cfg (pktMs p) .ac) r := rfl
@[simp] theorem evalDecode_digitStr (s : State) (p : Packet) (r : Bit) : (evalDecode s p r).digitStr = digitsOf s.cfg p r := rfl
@[simp] theorem evalDecode_reading (s : State) (p : Packet) (r : Bit) :
    (evalDecode s p r).reading = ⟨(evalDecode s p r).modeStr, (evalDecode s p r).digitStr, (evalDecode s p r).unitStr⟩ := rfl

theorem evalDecode_digitStr_length (s : State) (p : Packet) (r : Bit) :
    (evalDecode s p r).digitStr.length = 8 + (dpsOf (evalDecode s p r).dp - 1) := digitsOf_length s.cfg p r

/-- Settles O43: each string is a function of the bits named (`modeText_congr`, `us2Field_congr`, `digitsOf_congr`). -/
theorem outputsDependOnTheirInputsOnly : Obligations.OutputsDependOnTheirInputsOnly := by
  intro s t u p q r r' ht hu agree
  obtain rfl := Host.Outcome.next.inj ((exec_decode s p r).symm.trans ht)
  obtain rfl := Host.Outcome.next.inj ((exec_decode s q r').symm.trans hu)
  refine ⟨fun hauto hrel hdb hsto hrcl hcal => ?_, fun h15 h1 h2 hac hr => ?_, fun hneg hdigits => ?_⟩
  · have hselector : calOf s.cfg p = calOf s.cfg q := hcal
    rw [evalDecode_modeStr, evalDecode_modeStr, hselector]
    refine modeText_congr (fun f hbat hac hneg => ?_) (calOf s.cfg q)
    cases f with
    | auto => exact hauto
    | rel => exact hrel
    | db => exact hdb
    | sto => exact hsto
    | rcl => exact hrcl
    | bat => exact absurd rfl hbat
    | ac => exact absurd rfl hac
    | neg => exact absurd rfl hneg
  · have hus1 : pktUs1 p = pktUs1 q := h15
    have hfield : us2Field (pktUs2 p) = us2Field (pktUs2 q) := us2Field_congr h1 h2
    have hflag : flagBit s.cfg (pktMs p) .ac = flagBit s.cfg (pktMs q) .ac := hac
    rw [evalDecode_unitStr, evalDecode_unitStr, mergeBytes, mergeBytes, hus1, hfield, hflag, hr]
  · rw [evalDecode_digitStr, evalDecode_digitStr]
    exact digitsOf_congr hneg (pktDigits_congr hdigits) r r'

/-- Settles O44: the step is DECODE, which writes its three strings into the reading; the digit string's width is
`evalDecode_digitStr_length`. -/
theorem outputWidths : Obligations.OutputWidths := by
  intro s h
  have hdigits := evalDecode_digitStr_length s (Memory.packet s.mem) s.rsel
  refine ⟨_, step_of_none h, evalDecode_reading .., unitRowCells_length .., getmodeCells_length .., fun hdps => ?_, ?_⟩
  · omega
  · rw [hdigits, Nat.zero_max]

/-- Settles O39: FORMAT writes the reading, nothing else. -/
theorem formatComposes : Obligations.FormatComposes := fun s m g u => exec_format s m g u

/-- Settles O42: each stage answers its update of the state before it; read through the earlier updates, the lines it takes are the
values DECODE computes, so the eight updates are DECODE's own. -/
theorem decodeIsItsStages : Obligations.DecodeIsItsStages := by
  refine fun s p r => ⟨_, _, _, _, _, _, _, _, exec_fields s p, exec_xmode _ _, exec_xcal _ p, exec_merge _ _ _,
    exec_getmode _ _ _ _ _ _ _, exec_unitdec _ _ _ r, exec_digits _ p r, exec_format _ _ _ _, ?_⟩
  rw [exec_decode]
  rfl

end Machine

end Sys2Proof
end

section
/-! Exceptions (spec/60_exceptions.md R120, R121, R124): there is no failure value. An unknown segment code shows one sentinel, at its
digit byte and nowhere else in the digit string; and every operation, packet and well-formed presentation is evaluated. -/

namespace Sys2Proof

/-- A digit byte adds one sentinel if its key shows it, else none: its point is no sentinel. -/
theorem count_sentinel_digitPiece (c : Cfg) (b : Byte) :
    (digitPiece c b).count sentinel = if segdecOf c (segKey b) == sentinel then 1 else 0 := by
  have hpoint : (if dpBit b then [asc '.'] else []).count sentinel = 0 := by cases dpBit b <;> decide
  rw [digitPiece, List.count_append, hpoint, List.count_singleton, Nat.zero_add]

theorem count_sentinel_flatMap_digitPiece (c : Cfg) (bs : List Byte) :
    (bs.flatMap (digitPiece c)).count sentinel = bs.countP fun b => segdecOf c (segKey b) == sentinel := by
  induction bs with
  | nil => rfl
  | cons b bs ih => rw [List.flatMap_cons, List.count_append, ih, count_sentinel_digitPiece, List.countP_cons, Nat.add_comm]

/-- The compensation space and the sign are no sentinels, so all of them stand at digit bytes. -/
theorem count_sentinel_digitsOf (c : Cfg) (p : Packet) (r : Bit) :
    (digitsOf c p r).count sentinel = (pktDigits p).toList.countP fun b => segdecOf c (segKey b) == sentinel := by
  have hspace (found : Bool) : (if found then [] else [asc ' ']).count sentinel = 0 := by cases found <;> decide
  have hsign (neg : Bit) : [signCell neg].count sentinel = 0 := by cases neg <;> decide
  rw [digitsOf_eq, List.count_append, List.count_append, hspace, hsign, Nat.zero_add,
    count_sentinel_flatMap_digitPiece]

/-- A key off the table, spelled over its rows as R124 has it and over the key as the lookup's lemmas have it. -/
theorem forall_row_key_ne_iff (c : Cfg) (k : Byte) : (∀ row ∈ c.segtab, row.1 ≠ k) ↔ ∀ ch : Cell, (k, ch) ∉ c.segtab := by
  refine ⟨fun h ch hmem => h _ hmem rfl, ?_⟩
  rintro h row hrow rfl
  exact h row.2 hrow

/-- FORMAT's presentation is read when the three strings have the widths of spec/30_encoding.md R42, 28 to 33 cells together. -/
theorem decode_encode_format_isOk {c : Cfg} {m g u : List Cell} (h : (Instr.format m g u).wf c = true) :
    ∃ j, decode c (encode c (.format m g u)) = .ok j := by
  have hwidth := Laws.EncodedShape.format m g u c h
  simp only [encode, takesBytes, Bool.and_eq_true, decide_eq_true_eq] at hwidth
  exact ⟨_, if_pos hwidth⟩

/-- The decoder reads every well-formed instruction's encoding: packets have 18 bytes, one-bit operands are 0 or 1. -/
theorem decode_encode_isOk {c : Cfg} {i : Instr} (h : i.wf c = true) : ∃ j, decode c (encode c i) = .ok j := by
  cases i with
  | fields p | xcal p | flagCal p => exact ⟨_, congrArg (Except.map _) (takePacket_toList p)⟩
  | digits p r | decode p r => exact ⟨_, takePacketBit_toList p r _⟩
  | unitdec m ac r | unitKiloohm m ac r | unitMegaohm m ac r | unitOhm m ac r | unitMicroamp m ac r | unitMilliamp m ac r
  | unitAmp m ac r | unitMillivolt m ac r | unitVolt m ac r | unitNone m ac r => exact ⟨_, takeByteBits_bytes m ac r _⟩
  | getmode a r d x l k => simp [encode, decode, decodeGetmode]
  | format m g u => exact decode_encode_format_isOk h
  | xmode | xdp | xseg | merge | segdec | signch | strip | us2MergeField => exact ⟨_, rfl⟩
  | flagAuto | flagRel | flagBat | flagAc | flagDb | flagSto | flagRcl | flagNeg => exact ⟨_, rfl⟩
  | segBlank | seg0 | seg1 | seg2 | seg3 | seg4 | seg5 | seg6 | seg7 | seg8 | seg9 | segCapA | segCapC | segCapE | segCapH
  | segCapL | segLowC | segLowN | segLowO | segLowR | segLowT | segLowU | segEq | segUnknown => exact ⟨_, rfl⟩

namespace Machine

/-- Every instruction only writes result lines, on every operand and in every state (spec/60_exceptions.md R120). -/
theorem exec_isNext (i : Instr) (s : State) : ∃ t, exec i s = .next t := by
  obtain ⟨w, hw⟩ := actsByWrites i s.cfg
  exact ⟨s.write w, hw s rfl⟩

/-- Settles O38: the sentinels are counted by `count_sentinel_digitsOf`, and under a legal configuration a key shows the sentinel exactly
off the table. -/
theorem eachUnknownCodeShowsOnce : Obligations.EachUnknownCodeShowsOnce := by
  refine fun s p r h => ⟨_, exec_digits s p r, ?_⟩
  rw [State.evalDigits_digitStr]
  refine (count_sentinel_digitsOf s.cfg p r).trans ?_
  rw [pktDigits_toList, List.countP_map]
  refine List.countP_congr fun k _ => ?_
  rw [Function.comp_apply, beq_iff_eq, segdecOf_eq_sentinel_iff h, decide_eq_true_iff, forall_row_key_ne_iff, segKey]

/-- Settles O48: no instruction stops (`exec_isNext`); the whole block is DECODE, and a well-formed presentation is decoded to some
instruction (`decode_encode_isOk`). -/
theorem everyLegalInputIsEvaluated : Obligations.EveryLegalInputIsEvaluated := by
  refine ⟨exec_isNext, fun s h => ⟨_, step_of_none h⟩, fun s i _ hwf hreq => ?_⟩
  obtain ⟨j, hj⟩ := decode_encode_isOk hwf
  rw [step_of_request hreq hj]
  exact exec_isNext j s

end Machine

end Sys2Proof
end

section
/-! The encoder and the decoder (spec/30_encoding.md R35 to R44): a well-formed instruction is read back from its encoding. What is not
read off at once: GETMODE and SIGNCH carry their flags in a mode-status byte, FORMAT's strings are cut apart by their widths, and a data
row is the one that its byte selects. -/

namespace Sys2Proof

theorem bitAt_getLsbD (v : Bit) (k j : Fin 8) : (bitAt v k).getLsbD j = (v && decide (k = j)) := by
  cases v with
  | false => exact BitVec.getLsbD_zero
  | true =>
    rw [bitAt, if_pos rfl, ← BitVec.twoPow_eq, BitVec.getLsbD_twoPow]
    simp [Fin.ext_iff]

/-- Under a legal configuration every flag is read back from the byte that carries them (spec/30_encoding.md R36). -/
theorem flagBit_packFlags {c : Cfg} (h : c.legal = true) (fl : ModeFlags) (f : Flag) : flagBit c (packFlags c fl) f = fl.get f := by
  simp only [flagBit, packFlags, BitVec.getLsbD_or, bitAt_getLsbD, Cfg.modeBit_inj h]
  cases f <;> simp [ModeFlags.get]

/-- A flag carried alone is read at the bit where it was put, as SIGNCH's NEG is. -/
theorem flagBit_bitAt (c : Cfg) (v : Bit) (f : Flag) : flagBit c (bitAt v (c.modeBit f)) f = v := by
  rw [flagBit, bitAt_getLsbD, decide_eq_true rfl, Bool.and_true]

/-- FORMAT's three strings are cut apart again by the widths of spec/30_encoding.md R42. -/
theorem decodeFormat_append {m g u : List Cell} (hm : m.length = 15) (hg : 8 ≤ g.length ∧ g.length ≤ 13) (hu : u.length = 5) :
    decodeFormat (m ++ g ++ u) = .ok (.format m g u) := by
  have hlen : (m ++ g ++ u).length = 15 + g.length + 5 := by simp [hm, hu, Nat.add_assoc]
  have hmode : (m ++ g ++ u).take 15 = m := by rw [List.append_assoc, List.take_left' hm]
  have hrest : (m ++ g ++ u).drop 15 = g ++ u := by rw [List.append_assoc, List.drop_left' hm]
  have hdigits : (g ++ u).take (15 + g.length + 5 - 20) = g := List.take_left' (by omega)
  have hunits : (m ++ g ++ u).drop (15 + g.length + 5 - 5) = u := List.drop_left' (by simp [hm])
  rw [decodeFormat, hlen, hmode, hrest, hdigits, hunits, if_pos (by omega)]

theorem formatWidths_of_wf {c : Cfg} {m g u : List Cell} (h : (Instr.format m g u).wf c = true) :
    m.length = 15 ∧ (8 ≤ g.length ∧ g.length ≤ 13) ∧ u.length = 5 := by
  simpa [Instr.wf, and_assoc] using h

/-- A digit byte that selects a character's row is read as that row. -/
theorem decodeSegcode_of_selects {c : Cfg} {b : Byte} {ch : Char} (h : selectsSegRow c b ch = true) :
    decodeSegcode c b = segRowOf (asc ch) b := by
  rw [decodeSegcode, eq_of_beq h]

/-- A digit byte whose key is off the table is read as the sentinel's row. -/
theorem decodeSegcode_of_isNone {c : Cfg} {b : Byte} (h : (segLookup c (segKey b)).isNone = true) :
    decodeSegcode c b = .segUnknown b := by
  rw [decodeSegcode, Option.isNone_iff_eq_none.1 h]

/-- The presentation of a well-formed instruction is read as that instruction, with every operand (spec/30_encoding.md R43, R44). -/
theorem decode_encode {c : Cfg} (hc : c.legal = true) {i : Instr} (h : i.wf c = true) : decode c (encode c i) = .ok i := by
  cases i with
  | fields p | xcal p | flagCal p => exact congrArg (Except.map _) (takePacket_toList p)
  | digits p r | decode p r => exact takePacketBit_toList p r _
  | unitdec m ac r => exact takeByteBits_bytes m ac r _
  | getmode auto rel db sto rcl cal =>
    rw [encode, Machine.decode_getmode]
    simp only [flagBit_packFlags hc, ModeFlags.get]
  | signch neg => exact congrArg (fun v => Except.ok (Instr.signch v)) (flagBit_bitAt c neg .neg)
  | format m g u =>
    obtain ⟨hm, hg, hu⟩ := formatWidths_of_wf h
    exact decodeFormat_append hm hg hu
  | xmode | xdp | xseg | merge | segdec | strip | us2MergeField => rfl
  | flagAuto | flagRel | flagBat | flagAc | flagDb | flagSto | flagRcl | flagNeg => rfl
  | unitKiloohm m ac r | unitMegaohm m ac r | unitOhm m ac r | unitMicroamp m ac r | unitMilliamp m ac r | unitAmp m ac r
  | unitMillivolt m ac r | unitVolt m ac r | unitNone m ac r =>
    rw [encode, Machine.decode_mergedunits, decodeMergedunits, eq_of_beq h]
  | segUnknown b => exact congrArg Except.ok (decodeSegcode_of_isNone h)
  | segBlank | seg0 | seg1 | seg2 | seg3 | seg4 | seg5 | seg6 | seg7 | seg8 | seg9 | segCapA | segCapC | segCapE | segCapH
  | segCapL | segLowC | segLowN | segLowO | segLowR | segLowT | segLowU | segEq =>
    exact congrArg Except.ok (decodeSegcode_of_selects h)

namespace Machine

/-- Settles O51: by cases of the instruction (`decode_encode`). Legality is needed for GETMODE, whose flags share one byte. -/
theorem decodeOfEncode : Obligations.DecodeOfEncode := fun _ _ hc h => decode_encode hc h

end Machine

end Sys2Proof
end

section
/-! What the decoder answers (spec/30_encoding.md R44): every instruction it reads, from any bytes and under any configuration, is
well-formed under that configuration. -/

namespace Sys2Proof

/-! What each operand reader answers, if it answers. -/

theorem map_eq_ok {α : Type} {x : Except DecodeError α} {f : α → Instr} {i : Instr} (h : x.map f = .ok i) : ∃ a, i = f a := by
  cases x with
  | ok a => exact ⟨a, (Except.ok.inj h).symm⟩
  | error e => cases h

theorem takePacketBit_eq_ok {bytes : List Byte} {f : Packet → Bit → Instr} {i : Instr} (h : takePacketBit bytes f = .ok i) :
    ∃ p v, i = f p v := by
  rw [takePacketBit] at h
  split at h
  · cases h
  · split at h
    · cases h
    · exact ⟨_, _, (Except.ok.inj h).symm⟩

theorem takeByte_eq_ok {bytes : List Byte} {f : Byte → Instr} {i : Instr} (h : takeByte bytes f = .ok i) : ∃ b, i = f b := by
  unfold takeByte at h
  split at h
  · exact ⟨_, (Except.ok.inj h).symm⟩
  · cases h

theorem takeByteBits_eq_ok {bytes : List Byte} {f : Byte → Bit → Bit → Instr} {i : Instr} (h : takeByteBits bytes f = .ok i) :
    ∃ b x y, i = f b x y := by
  unfold takeByteBits at h
  split at h
  · split at h
    · exact ⟨_, _, _, (Except.ok.inj h).symm⟩
    · cases h
    · cases h
  · cases h

theorem decodeGetmode_eq_ok {c : Cfg} {bytes : List Byte} {i : Instr} (h : decodeGetmode c bytes = .ok i) :
    ∃ auto rel db sto rcl cal, i = .getmode auto rel db sto rcl cal := by
  unfold decodeGetmode at h
  split at h
  · split at h
    · cases h
    · exact ⟨_, _, _, _, _, _, (Except.ok.inj h).symm⟩
  · cases h

theorem decodeMerge_eq_ok {c : Cfg} {bytes : List Byte} {i : Instr} (h : decode c ⟨.merge, bytes⟩ = .ok i) :
    ∃ us1 us2, i = .merge us1 us2 := by
  simp only [decode] at h
  split at h
  · exact ⟨_, _, (Except.ok.inj h).symm⟩
  · cases h

/-- The character a byte's key has in the table selects its own row, or SEGDEC, which takes every byte. -/
theorem segRowOf_wf {c : Cfg} {b : Byte} {ch : Cell} (h : segLookup c (segKey b) = some ch) : (segRowOf ch b).wf c = true := by
  have pick {d : Char} {i j : Instr} (hi : selectsSegRow c b d = true → i.wf c = true) (hj : j.wf c = true) :
      (if ch = asc d then i else j).wf c = true := by
    split
    · next e => exact hi (by rw [selectsSegRow, h, e, beq_self_eq_true])
    · exact hj
  unfold segRowOf
  iterate 23 refine pick id ?_
  rfl

theorem decodeSegcode_wf (c : Cfg) (b : Byte) : (decodeSegcode c b).wf c = true := by
  unfold decodeSegcode
  split
  · next h => exact segRowOf_wf h
  · next h => exact Option.isNone_iff_eq_none.2 h

theorem decodeModestatus_wf (c : Cfg) (f : Flag) (ms : Byte) : (decodeModestatus f ms).wf c = true := by cases f <;> rfl

theorem decodeMergedunits_wf (c : Cfg) (m : Byte) (ac r : Bit) : (decodeMergedunits c m ac r).wf c = true := by
  unfold decodeMergedunits
  split <;> next h => exact beq_iff_eq.2 h

theorem decodeFormat_wf {c : Cfg} {cells : List Cell} {i : Instr} (h : decodeFormat cells = .ok i) : i.wf c = true := by
  unfold decodeFormat at h
  split at h
  · next hwidth =>
    obtain rfl := Except.ok.inj h
    simp only [Instr.wf, List.length_take, List.length_drop, Bool.and_eq_true, beq_iff_eq, decide_eq_true_eq]
    omega
  · cases h

/-- The decoder reads well-formed instructions only. -/
theorem decode_wf {c : Cfg} {q : Request} {i : Instr} (h : decode c q = .ok i) : i.wf c = true := by
  obtain ⟨f, bytes⟩ := q
  cases f with
  | fields | xcal | calflag => obtain ⟨_, rfl⟩ := map_eq_ok h; rfl
  | xmode | xdp | xseg | segdec | signch | unitstatus2 => obtain ⟨_, rfl⟩ := takeByte_eq_ok h; rfl
  | digits | decode => obtain ⟨_, _, rfl⟩ := takePacketBit_eq_ok h; rfl
  | getmode => obtain ⟨_, _, _, _, _, _, rfl⟩ := decodeGetmode_eq_ok h; rfl
  | merge => obtain ⟨_, _, rfl⟩ := decodeMerge_eq_ok h; rfl
  | unitdec => obtain ⟨_, _, _, rfl⟩ := takeByteBits_eq_ok h; rfl
  | format => exact decodeFormat_wf h
  | strip => obtain rfl := Except.ok.inj h; rfl
  | segcode => obtain ⟨b, rfl⟩ := takeByte_eq_ok h; exact decodeSegcode_wf c b
  | modestatus f => obtain ⟨ms, rfl⟩ := takeByte_eq_ok h; exact decodeModestatus_wf c f ms
  | mergedunits => obtain ⟨m, ac, r, rfl⟩ := takeByteBits_eq_ok h; exact decodeMergedunits_wf c m ac r

end Sys2Proof
end

section
/-! The invariant (spec/10_state.md R14, 40_extract.md R55, 42_merge.md R76, 45_digits.md R105 to R108, 46_format.md R111, R112; logs 4,
27): an update of a result line keeps it when the value written keeps its rule, and every value that an evaluation writes does. -/

namespace Sys2Proof

/-- STRIP leaves neither a minus nor a space in front (spec/46_format.md R112). -/
theorem stripCells_head {g : List Cell} {x : Cell} (h : (stripCells g).head? = some x) : x ≠ asc '-' ∧ x ≠ asc ' ' := by
  obtain ⟨_, hhead⟩ := stripCells_spec g
  have hlead := hhead x h
  simp only [isLead, Bool.or_eq_false_iff, beq_eq_false_iff_ne] at hlead
  exact hlead.symm

theorem signCell_eq (neg : Bit) : signCell neg = asc '-' ∨ signCell neg = asc ' ' := by
  cases neg with
  | false => exact .inr rfl
  | true => exact .inl rfl

theorem unitdecOf_length (c : Cfg) (m : Byte) (ac r : Bit) : (unitdecOf c m ac r).length = 5 := unitRowCells_length ..

theorem segKey_clears_point (b : Byte) : (segKey b).getLsbD 2 = false := by
  rw [segKey_getLsbD]
  simp

/-- Bit 2 of every `key[k]` is clear (spec/40_extract.md R55). -/
theorem pktKeys_clear_point (p : Packet) : ∀ k ∈ (pktKeys p).toList, k.getLsbD 2 = false := by
  rw [pktKeys_eq_map, Vector.toList_map, List.forall_mem_map]
  exact fun b _ => segKey_clears_point b

/-- The width of the digit string fits FORMAT's (spec/45_digits.md R107). -/
theorem digitsOf_fits (c : Cfg) (p : Packet) (r : Bit) : 8 ≤ (digitsOf c p r).length ∧ (digitsOf c p r).length ≤ 13 := by
  have hdps := dpsOf_le_six (pktPoints p)
  rw [digitsOf_length]
  omega

namespace Machine

/-- The digit string's cells are of its alphabet (spec/45_digits.md R108). -/
theorem digitsOf_subset_alphabet (c : Cfg) (p : Packet) (r : Bit) : ∀ x ∈ digitsOf c p r, x ∈ digitAlphabet c := by
  intro x hx
  obtain ⟨halphabet, _⟩ := digitStringAlphabet { State.reset with cfg := c } _ p r (exec_digits _ p r)
  simp only [digitAlphabet, List.mem_append, List.mem_cons, List.not_mem_nil, or_false, List.mem_map, Prod.exists,
    exists_eq_right, or_assoc]
  exact halphabet x hx

theorem modeText_length (c : Cfg) (ms : Byte) (cal : Bit) : (modeText c ms cal).length = 15 := getmodeCells_length ..

namespace State.Inv

variable {s : State} (h : s.Inv)
include h

/-! The lines of which the invariant says nothing. -/

theorem evalFields (p : Packet) : (s.evalFields p).Inv := h
theorem setFlags (fl : ModeFlags) : (s.setFlags fl).Inv := h
theorem setCal (v : Bit) : (s.setCal v).Inv := h
theorem setXdp (v : Bit) : (s.setXdp v).Inv := h
theorem setMerged (m : Byte) : (s.setMerged m).Inv := h
theorem setSegChar (ch : Cell) : (s.setSegChar ch).Inv := h

/-! The lines of which it says something. -/

theorem setXseg (b : Byte) : (s.setXseg (segKey b)).Inv := by
  obtain ⟨hcfg, hmem, hwidths, hreading, hfound, hkey, _, hfield, hsign, hstripped, hdigits⟩ := h
  exact ⟨hcfg, hmem, hwidths, hreading, hfound, hkey, segKey_clears_point b, hfield, hsign, hstripped, hdigits⟩

theorem setMergeField (b : Byte) : (s.setMergeField (us2Field b)).Inv := by
  obtain ⟨hcfg, hmem, hwidths, hreading, hfound, hkey, hxseg, _, hsign, hstripped, hdigits⟩ := h
  exact ⟨hcfg, hmem, hwidths, hreading, hfound, hkey, hxseg, us2Field_and_low_six b, hsign, hstripped, hdigits⟩

theorem setSignChar (neg : Bit) : (s.setSignChar (signCell neg)).Inv := by
  obtain ⟨hcfg, hmem, hwidths, hreading, hfound, hkey, hxseg, hfield, _, hstripped, hdigits⟩ := h
  exact ⟨hcfg, hmem, hwidths, hreading, hfound, hkey, hxseg, hfield, signCell_eq neg, hstripped, hdigits⟩

theorem setStripped (g : List Cell) : (s.setStripped (stripCells g)).Inv := by
  obtain ⟨hcfg, hmem, hwidths, hreading, hfound, hkey, hxseg, hfield, hsign, _, hdigits⟩ := h
  exact ⟨hcfg, hmem, hwidths, hreading, hfound, hkey, hxseg, hfield, hsign, fun _ => stripCells_head, hdigits⟩

theorem setModeStr {m : List Cell} (hm : m.length = 15) : (s.setModeStr m).Inv := by
  obtain ⟨hcfg, hmem, ⟨_, hunit, hdigit⟩, hreading, hlines⟩ := h
  exact ⟨hcfg, hmem, ⟨hm, hunit, hdigit⟩, hreading, hlines⟩

theorem setUnitStr {u : List Cell} (hu : u.length = 5) : (s.setUnitStr u).Inv := by
  obtain ⟨hcfg, hmem, ⟨hmode, _, hdigit⟩, hreading, hlines⟩ := h
  exact ⟨hcfg, hmem, ⟨hmode, hu, hdigit⟩, hreading, hlines⟩

theorem setReading {m g u : List Cell} (hm : m.length = 15) (hg : 8 ≤ g.length ∧ g.length ≤ 13) (hu : u.length = 5) :
    (s.setReading ⟨m, g, u⟩).Inv := by
  obtain ⟨hcfg, hmem, hwidths, _, hlines⟩ := h
  exact ⟨hcfg, hmem, hwidths, ⟨hm, hu, hg⟩, hlines⟩

theorem evalDigits (p : Packet) (r : Bit) : (s.evalDigits p r).Inv := by
  obtain ⟨hcfg, hmem, ⟨hmode, hunit, _⟩, hreading, _, _, hxseg, hfield, hsign, hstripped, _⟩ := h
  exact ⟨hcfg, hmem, ⟨hmode, hunit, digitsOf_length s.cfg p r⟩, hreading, digitWalk_found .., pktKeys_clear_point p, hxseg, hfield,
    hsign, hstripped, digitsOf_subset_alphabet s.cfg p r⟩

/-- DECODE is the updates of its stages, one after the other (spec/46_format.md R113). -/
theorem exec_decode (p : Packet) (r : Bit) : ∃ t, exec (.decode p r) s = .next t ∧ t.Inv := by
  have hextract := (((h.evalFields p).setFlags (xmodeOf s.cfg (pktMs p))).setCal (calOf s.cfg p)).setMerged
    (mergeBytes (pktUs1 p) (pktUs2 p))
  have hmode := modeText_length s.cfg (pktMs p) (calOf s.cfg p)
  have hunit := unitdecOf_length s.cfg (mergeBytes (pktUs1 p) (pktUs2 p)) (flagBit s.cfg (pktMs p) .ac) r
  exact ⟨_, rfl, (((hextract.setModeStr hmode).setUnitStr hunit).evalDigits p r).setReading hmode (digitsOf_fits s.cfg p r) hunit⟩

end State.Inv

/-- A well-formed instruction keeps the invariant; of FORMAT's operands this needs the widths (spec/30_encoding.md R42). -/
theorem exec_keeps_inv {s : State} (h : s.Inv) {i : Instr} (hwf : i.wf s.cfg = true) : ∃ t, exec i s = .next t ∧ t.Inv := by
  cases i with
  | xseg b => exact ⟨_, rfl, h.setXseg b⟩
  | us2MergeField b => exact ⟨_, rfl, h.setMergeField b⟩
  | signch neg => exact ⟨_, rfl, h.setSignChar neg⟩
  | strip g => exact ⟨_, rfl, h.setStripped g⟩
  | getmode => exact ⟨_, rfl, h.setModeStr (getmodeCells_length ..)⟩
  | format =>
    obtain ⟨hm, hg, hu⟩ := formatWidths_of_wf hwf
    exact ⟨_, rfl, h.setReading hm hg hu⟩
  | digits p r => exact ⟨_, rfl, h.evalDigits p r⟩
  | decode p r => exact h.exec_decode p r
  | unitdec | unitKiloohm | unitMegaohm | unitOhm | unitMicroamp | unitMilliamp | unitAmp | unitMillivolt | unitVolt | unitNone =>
    exact ⟨_, rfl, h.setUnitStr (unitRowCells_length ..)⟩
  | fields p => exact ⟨_, rfl, h.evalFields p⟩
  | xcal | flagCal => exact ⟨_, rfl, h.setCal _⟩
  | xdp b => exact ⟨_, rfl, h.setXdp (dpBit b)⟩
  | merge us1 us2 => exact ⟨_, rfl, h.setMerged (mergeBytes us1 us2)⟩
  | xmode | flagAuto | flagRel | flagBat | flagAc | flagDb | flagSto | flagRcl | flagNeg => exact ⟨_, rfl, h.setFlags _⟩
  | segdec | segBlank | seg0 | seg1 | seg2 | seg3 | seg4 | seg5 | seg6 | seg7 | seg8 | seg9 | segCapA | segCapC | segCapE
  | segCapH | segCapL | segLowC | segLowN | segLowO | segLowR | segLowT | segLowU | segEq | segUnknown =>
    exact ⟨_, rfl, h.setSegChar _⟩

/-- Settles O53: a step that answers runs a well-formed instruction (`decode_wf`), and each one keeps the invariant. -/
theorem stepKeepsTheInvariant : Obligations.StepKeepsTheInvariant := by
  intro s t h ht
  obtain ⟨i, hdecode, hexec⟩ := step_next ht
  obtain ⟨t', hexec', hinv⟩ := exec_keeps_inv h (decode_wf hdecode)
  obtain rfl : t' = t := Host.Outcome.next.inj (hexec'.symm.trans hexec)
  exact hinv

/-- Settles O54: at reset the strings are spaces, and every other line that has a rule holds zero, a space or the empty string. -/
theorem resetMeetsTheInvariant : Obligations.ResetMeetsTheInvariant :=
  ⟨by decide, Memory.wf_nil, ⟨rfl, rfl, rfl⟩, ⟨rfl, rfl, by decide, by decide⟩, rfl, by decide, rfl, rfl, .inr rfl, nofun,
    fun _ hx => List.eq_of_mem_replicate hx ▸ List.mem_cons_self⟩

end Machine

end Sys2Proof
end

section
/-! The CAL selectors (spec/40_extract.md R53, D5, log 8): a function of the packet is a function of its 144 bits, and a tree that asks
for one bit after the other reaches a leaf where all of them are known. -/

namespace Sys2Proof

/-- Where a bit of the packet stands: the byte and the bit in it. -/
abbrev BitPos := Fin 18 × Fin 8

def packetBit (p : Packet) (i : BitPos) : Bit := p[i.1].getLsbD i.2

/-- The packet with these bits. -/
def packetOfBits (known : BitPos → Bit) : Packet := Vector.ofFn fun a => BitVec.ofFnLE fun k => known (a, k)

/-- A packet is its bits. -/
theorem eq_packetOfBits {p : Packet} {known : BitPos → Bit} (h : ∀ i, packetBit p i = known i) : p = packetOfBits known := by
  refine Vector.ext fun a ha => ?_
  rw [packetOfBits, Vector.getElem_ofFn]
  refine BitVec.eq_of_getLsbD_eq fun k hk => ?_
  have hbit := h (⟨a, ha⟩, ⟨k, hk⟩)
  rw [BitVec.getLsbD_ofFnLE]
  simpa [packetBit, hk] using hbit

theorem eval_node (i : BitPos) (e0 e1 : CalSel) (p : Packet) :
    (CalSel.node i.1 i.2 e0 e1).eval p = if packetBit p i then e1.eval p else e0.eval p := rfl

/-- One position less to ask for: the bit there is known. -/
theorem packetBit_eq_update {p : Packet} {i : BitPos} {rest : List BitPos} {known : BitPos → Bit}
    (h : ∀ j, j ∉ i :: rest → packetBit p j = known j) :
    ∀ j, j ∉ rest → packetBit p j = Function.update known i (packetBit p i) j := by
  intro j hj
  by_cases hji : j = i
  · rw [hji, Function.update_self]
  · rw [Function.update_of_ne hji, h j (by simp [hji, hj])]

/-- For the packets whose bits are known off a list of positions there is a tree, by induction on that list: it asks for the first
position, and with nothing left to ask for the packet is known. -/
theorem exists_tree (f : Packet → Bit) (positions : List BitPos) (known : BitPos → Bit) :
    ∃ e : CalSel, ∀ p, (∀ j, j ∉ positions → packetBit p j = known j) → e.eval p = f p := by
  induction positions generalizing known with
  | nil => exact ⟨.leaf (f (packetOfBits known)), fun p h => by rw [eq_packetOfBits fun i => h i List.not_mem_nil]; rfl⟩
  | cons i rest ih =>
    obtain ⟨e0, h0⟩ := ih (Function.update known i false)
    obtain ⟨e1, h1⟩ := ih (Function.update known i true)
    refine ⟨.node i.1 i.2 e0 e1, fun p h => ?_⟩
    have hrest := packetBit_eq_update h
    rw [eval_node]
    cases hbit : packetBit p i with
    | false => exact h0 p (hbit ▸ hrest)
    | true => exact h1 p (hbit ▸ hrest)

namespace Machine

/-- Settles O5: the tree of `exists_tree` that asks for every position. -/
theorem everyCalSelectorIsATree : Obligations.EveryCalSelectorIsATree := by
  intro f
  obtain ⟨e, he⟩ := exists_tree f (List.finRange 18 ×ˢ List.finRange 8) fun _ => false
  exact ⟨e, fun p => he p fun j hj => absurd (List.mem_product.2 ⟨List.mem_finRange _, List.mem_finRange _⟩) hj⟩

end Machine

end Sys2Proof
end

section
/-! The shape of the digit string (spec/45_digits.md R104, R105, R107; D11, D12, D14, log 15) and what STRIP leaves of it
(spec/46_format.md R112; D17, log 22): the cells in front of the digit bytes' own are all removed. -/

namespace Sys2Proof

/-- Without a point no digit byte adds more than its character. -/
theorem flatMap_digitPiece_of_no_point (c : Cfg) {bs : List Byte} (h : bs.any dpBit = false) :
    bs.flatMap (digitPiece c) = bs.map fun b => segdecOf c (segKey b) := by
  rw [List.map_eq_flatMap]
  refine List.flatMap_congr fun b hb => ?_
  rw [digitPiece, Bool.eq_false_iff.2 (List.any_eq_false.1 h b hb)]
  rfl

/-- Without a point the compensation space stands in front (spec/45_digits.md R104). -/
theorem digitsOf_of_no_point (c : Cfg) {p : Packet} (h : (pktDigits p).toList.any dpBit = false) (r : Bit) :
    digitsOf c p r = asc ' ' :: signCell (flagBit c (pktMs p) .neg) :: (pktDigits p).toList.map fun b => segdecOf c (segKey b) := by
  rw [digitsOf_eq, h, flatMap_digitPiece_of_no_point c h]
  rfl

/-- With a point the sign stands in front. -/
theorem digitsOf_of_point (c : Cfg) {p : Packet} (h : (pktDigits p).toList.any dpBit = true) (r : Bit) :
    digitsOf c p r = signCell (flagBit c (pktMs p) .neg) :: (pktDigits p).toList.flatMap (digitPiece c) := by
  rw [digitsOf_eq, h]
  rfl

theorem any_pktDigits_eq_true_iff (p : Packet) :
    (pktDigits p).toList.any dpBit = true ↔ ∃ k : Fin 6, (p[9 + k.val]'(by omega)).getLsbD 2 = true := by
  simp only [any_pktDigits_iff, pktPoints_getElem, dpBit]

theorem isLead_iff (x : Cell) : isLead x = true ↔ x = asc ' ' ∨ x = asc '-' := by
  rw [isLead, Bool.or_eq_true, beq_iff_eq, beq_iff_eq]

theorem isLead_signCell (neg : Bit) : isLead (signCell neg) = true := by cases neg <;> decide

theorem stripCells_cons_lead {x : Cell} (h : isLead x = true) (g : List Cell) : stripCells (x :: g) = stripCells g :=
  List.dropWhile_cons_of_pos h

/-- The compensation space and the sign are stripped, whatever they are (spec/46_format.md R112). -/
theorem stripCells_digitsOf (c : Cfg) (p : Packet) (r : Bit) :
    stripCells (digitsOf c p r) = stripCells ((pktDigits p).toList.flatMap (digitPiece c)) := by
  have hsign := isLead_signCell (flagBit c (pktMs p) .neg)
  cases h : (pktDigits p).toList.any dpBit with
  | false =>
    rw [digitsOf_of_no_point c h, flatMap_digitPiece_of_no_point c h, stripCells_cons_lead (by decide), stripCells_cons_lead hsign]
  | true => rw [digitsOf_of_point c h, stripCells_cons_lead hsign]

namespace Machine

/-- Settles O34: `digitsOf_of_no_point` and `digitsOf_of_point`. -/
theorem widthCompensationStandsFirst : Obligations.WidthCompensationStandsFirst := by
  intro s t p r ht
  obtain rfl := Host.Outcome.next.inj ((exec_digits s p r).symm.trans ht)
  rw [State.evalDigits_digitStr]
  constructor
  · intro hclear
    have hnone : (pktDigits p).toList.any dpBit = false :=
      Bool.eq_false_iff.2 fun h => by
        obtain ⟨k, hk⟩ := (any_pktDigits_eq_true_iff p).1 h
        exact Bool.false_ne_true ((hclear k).symm.trans hk)
    rw [digitsOf_of_no_point s.cfg hnone, pktDigits_toList, List.map_map]
    rfl
  · intro hset
    rw [digitsOf_of_point s.cfg ((any_pktDigits_eq_true_iff p).2 hset)]
    rfl

/-- Settles O35: the length is `digitsOf_length`, and there are at most six points. -/
theorem digitStringLength : Obligations.DigitStringLength := by
  intro s p r
  have hlen : (s.evalDigits p r).digitStr.length = 8 + (dpsOf (s.evalDigits p r).dp - 1) := digitsOf_length s.cfg p r
  have hdps := dpsOf_le_six (s.evalDigits p r).dp
  refine ⟨_, exec_digits s p r, fun hfew => ?_, fun hmany => ?_, ?_, ?_⟩ <;> omega

/-- Settles O40: what STRIP takes off is `takeWhile isLead`, and `stripCells_spec` says what it leaves. -/
theorem stripRemovesTheLongestPrefix : Obligations.StripRemovesTheLongestPrefix := by
  intro s g
  obtain ⟨hsplit, _⟩ := stripCells_spec g
  exact ⟨_, g.takeWhile isLead, exec_strip s g, rfl, hsplit, fun x hx => (isLead_iff x).1 (List.mem_takeWhile_imp hx),
    fun x hx => (stripCells_head hx).symm⟩

/-- Settles O41: both stripped strings are that of the digit bytes' own cells (`stripCells_digitsOf`), and these are the same. -/
theorem stripForgetsTheSign : Obligations.StripForgetsTheSign := by
  intro s t u p q r r' hdigits ht hu
  obtain rfl := Host.Outcome.next.inj ((exec_digits s p r).symm.trans ht)
  obtain rfl := Host.Outcome.next.inj ((exec_digits s q r').symm.trans hu)
  refine ⟨_, _, exec_strip _ _, exec_strip _ _, ?_⟩
  rw [State.setStripped_stripped, State.setStripped_stripped, State.evalDigits_digitStr, State.evalDigits_digitStr,
    stripCells_digitsOf, stripCells_digitsOf, pktDigits_congr hdigits]

end Machine

end Sys2Proof
end

section
/-! What is presented and what a step runs (spec/20_memory.md R26, 60_exceptions.md R126, D15; 70_reset_and_hazards.md R135, D18; logs 2,
3, 5, 6, 7, 10, 18). -/

namespace Sys2Proof.Machine

/-- Without an instruction in the presentation the step is refused, with the decoder's reason. -/
theorem step_of_error {s : State} {q : Request} {e : DecodeError} (h : s.request = some q) (hd : decode s.cfg q = .error e) :
    step s = .refused (.notAnInput e) := by
  simp only [step, fetch, h, hd]

/-- A buffer of another length is refused with its length (spec/20_memory.md R26). -/
theorem present_of_length_ne {buffer : List Byte} (h : buffer.length ≠ 18) (s : State) (r : Bit) :
    s.present buffer r = .refused (.notAPacket buffer.length) := by
  rw [State.present, takePacket_error h]

/-- Settles O49: 18 bytes are a packet, whose memory is canonical and holds each byte (`Memory.readByte_ofPacket`). -/
theorem onlyEighteenBytesAreAPacket : Obligations.OnlyEighteenBytesAreAPacket := by
  intro s buffer r
  refine ⟨fun h => ?_, fun h => present_of_length_ne h s r⟩
  obtain ⟨p, rfl⟩ : ∃ p : Packet, p.toList = buffer := ⟨⟨buffer.toArray, h⟩, rfl⟩
  refine ⟨_, present_toList p r, fun a => ?_, ?_, ?_⟩ <;> dsimp only
  · rw [Memory.readByte_ofPacket, Vector.getElem_toList, Fin.getElem_fin]
  · exact Memory.ofPacket_wf p

/-- Settles O50: the three ways `step` can go. -/
theorem stepRunsTheDecodedInstruction : Obligations.StepRunsTheDecodedInstruction := fun s =>
  ⟨fun _ _ h hd => step_of_request h hd, fun _ _ h hd => step_of_error h hd,
    fun h => (step_of_none h).trans (exec_decode s (Memory.packet s.mem) s.rsel).symm⟩

theorem decode_of_decodeTableWord {nbits w : Nat} {i : Instr} (h : decodeTableWord nbits w = some i) :
    decode cfg0 (tableRequest nbits w) = .ok i := by
  unfold decodeTableWord at h
  split at h
  · next hd => rw [hd, Option.some.inj h]
  · cases h

/-- Settles O58: the presented word is decoded as the table's, and every instruction answers (`exec_isNext`). -/
theorem tableWordIsWhatStepRuns : Obligations.TableWordIsWhatStepRuns := by
  intro s nbits w i h
  obtain ⟨t, ht⟩ := exec_isNext i (s.withFetchWord nbits w)
  have hstep : step (s.withFetchWord nbits w) = exec i (s.withFetchWord nbits w) :=
    step_of_request rfl (decode_of_decodeTableWord h)
  exact ⟨t, hstep.trans ht, ht⟩

/-- Settles O52: each word read by its format, the data rows through CFG0's table and masks. -/
theorem writtenWordsDecode : Obligations.WrittenWordsDecode :=
  ⟨rfl, rfl, rfl, rfl, rfl, rfl, rfl, rfl, rfl⟩

/-- DECODE of the zero packet under CFG0 gives each line the value that reset has in it. -/
theorem evalDecode_reset : evalDecode State.reset (Memory.packet []) false = State.reset := by decide

/-- Settles O55: with nothing presented alone the step is DECODE on the inputs at reset (`evalDecode_reset`). -/
theorem resetOutputsAreDecodeOfItsInputs : Obligations.ResetOutputsAreDecodeOfItsInputs :=
  ⟨(step_of_none rfl).trans (congrArg Host.Outcome.next evalDecode_reset), rfl⟩

end Sys2Proof.Machine
end
